-- ==== Sys2Proof/Word.lean ====
section
/-! DEFINITION. The word types of FXAU (spec/00_scope.md R15, spec/10_state.md R21). -/

namespace Sys2Proof

/-- A word is 32 bits (R15). -/
abbrev Word := BitVec 32

/-- A half is 16 bits (R15). -/
abbrev Half := BitVec 16

/-- A register number, 0 to 15 (R91). -/
abbrev Reg := Fin 16

end Sys2Proof
end

