-- ==== Sys2Proof/Syntax.lean ====
section
/-! DEFINITION. The 45 commands of FXAU-1 (spec/30_encoding.md R94), one constructor per row of
spec/opcode_table.json, in the table's order. Register fields are register numbers, `imm16` stays a bit
vector where the command uses its bits, and counts and indices are natural numbers whose encodable range
WellFormed checks. -/

namespace Sys2Proof

inductive Instr where
  -- register movement and CSR access, spec/40_regmove_csr.md
  | nop
  | ldi (rd : Reg) (imm : Half)
  | ldih (rd : Reg) (imm : Half)
  | mov (rd ra : Reg)
  | get (ra : Reg)
  | csrrd (rd : Reg) (csr : Half)
  | csrwr (rs : Reg) (csr : Half)
  -- fixed-point operations, spec/41_fixedpoint.md
  | sadd32 (rd ra rb : Reg)
  | ssub32 (rd ra rb : Reg)
  | sadd16 (rd ra rb : Reg)
  | ssub16 (rd ra rb : Reg)
  | sneg32 (rd ra : Reg)
  | sneg16 (rd ra : Reg)
  | q15to31 (rd ra : Reg)
  | q31to15 (rd ra : Reg)
  | mulh (rd ra rb : Reg)
  | smul31 (rd ra rb : Reg)
  | smul15 (rd ra rb : Reg)
  | mulhs (rd ra rb : Reg) (sh : Nat)
  | sshl32 (rd ra : Reg) (sh : Nat)
  | asr32 (rd ra : Reg) (sh : Nat)
  | sat16 (rd ra : Reg)
  -- buffer pool and sample access, spec/42_bufferpool.md
  | take (rd : Reg)
  | takeb (rd : Reg)
  | give (ra : Reg)
  | ctake (rd : Reg)
  | cgive (ra : Reg)
  | setcnt (ra rb : Reg)
  | getcnt (rd ra : Reg)
  | sts (rs ra rb : Reg)
  | lds (rd ra rb : Reg)
  | stf (rs ra rb : Reg)
  | ldf (rd ra rb : Reg)
  | flush
  -- biquad core, spec/43_biquad.md
  | coefwr (rs : Reg) (k j : Nat)
  | coefrd (rd : Reg) (k j : Nat)
  | commit
  | eqen (e : Bool)
  | bqrun (ra : Reg) (c : Fin 2)
  | strd (rd : Reg) (c k j : Nat)
  -- dispatcher, spec/44_dispatch.md
  | fork (ra : Reg)
  | accept (rd : Reg)
  | done
  | join
  | fence
  deriving DecidableEq, Repr

end Sys2Proof
end

