-- ==== Sys2Proof/WellFormed.lean ====
section
/-! DEFINITION. Which terms of Instr are commands: every number fits the bits its field has
(spec/30_encoding.md R90, R92). A number that fits its field but is beyond a parameter (a band `k >= NBAND`)
is well formed; it is rejected with RANGE when it executes (R100). -/

namespace Sys2Proof

/-- Every operand fits its field. -/
def Instr.wellFormed : Instr → Bool
  | .mulhs _ _ _ sh => decide (sh < 32)
  | .sshl32 _ _ sh => decide (sh < 32)
  | .asr32 _ _ sh => decide (sh < 32)
  | .coefwr _ k j => decide (k < 256 ∧ j < 16)
  | .coefrd _ k j => decide (k < 256 ∧ j < 16)
  | .strd _ c k j => decide (c < 16 ∧ k < 256 ∧ j < 16)
  | .nop | .ldi _ _ | .ldih _ _ | .mov _ _ | .get _ | .csrrd _ _ | .csrwr _ _
  | .sadd32 _ _ _ | .ssub32 _ _ _ | .sadd16 _ _ _ | .ssub16 _ _ _ | .sneg32 _ _ | .sneg16 _ _
  | .q15to31 _ _ | .q31to15 _ _ | .mulh _ _ _ | .smul31 _ _ _ | .smul15 _ _ _ | .sat16 _ _
  | .take _ | .takeb _ | .give _ | .ctake _ | .cgive _ | .setcnt _ _ | .getcnt _ _
  | .sts _ _ _ | .lds _ _ _ | .stf _ _ _ | .ldf _ _ _ | .flush
  | .commit | .eqen _ | .bqrun _ _ | .fork _ | .accept _ | .done | .join | .fence => true

end Sys2Proof
end

