-- ==== Sys2Proof/Decode.lean ====
section
/-! DEFINITION. Decoding and encoding of command words (spec/30_encoding.md R90 to R99). Decoding depends on
the word alone; a word that is no command is a reserved encoding, reported by name. -/

namespace Sys2Proof

/-- Why a word is a reserved encoding (R99). -/
inductive DecodeError where
  /-- no command has this `op` (R98) -/
  | unassignedOp
  /-- the `op` is assigned and a must-be-zero bit is set (R95) -/
  | mustBeZero
  deriving DecidableEq, Repr

/-- `v[hi:lo]`, the bit field as an unsigned integer (R15). -/
def bitField (w : Word) (hi lo : Nat) : Nat := w.toNat / 2 ^ lo % 2 ^ (hi + 1 - lo)

/-- The register number in the four bits from bit `lo` up (R91). -/
def regField (w : Word) (lo : Nat) : Reg := Fin.ofNat 16 (w.toNat / 2 ^ lo)

/-- `rd` (or `rs`) of R90. -/
def rdField (w : Word) : Reg := regField w 20

/-- `ra` of R90. -/
def raField (w : Word) : Reg := regField w 16

/-- `rb` of R90. -/
def rbField (w : Word) : Reg := regField w 12

/-- `imm16` of R90. -/
def immField (w : Word) : Half := BitVec.ofNat 16 w.toNat

/-- The command `i`, if every bit range listed is zero (R95); else a reserved encoding. -/
def whenZero (w : Word) (ranges : List (Nat × Nat)) (i : Instr) : Except DecodeError Instr :=
  if ranges.all (fun r => decide (bitField w r.1 r.2 = 0)) then .ok i else .error .mustBeZero

/-- R96: the `op` selects the row, the row's must-be-zero bits are checked, the fields are read. -/
def decode (w : Word) : Except DecodeError Instr :=
  match bitField w 31 24 with
  | 0x00 => whenZero w [(23, 0)] .nop
  | 0x01 => whenZero w [(19, 16)] (.ldi (rdField w) (immField w))
  | 0x02 => whenZero w [(19, 16)] (.ldih (rdField w) (immField w))
  | 0x03 => whenZero w [(15, 0)] (.mov (rdField w) (raField w))
  | 0x04 => whenZero w [(23, 20), (15, 0)] (.get (raField w))
  | 0x08 => whenZero w [(19, 16)] (.csrrd (rdField w) (immField w))
  | 0x09 => whenZero w [(19, 16)] (.csrwr (rdField w) (immField w))
  | 0x10 => whenZero w [(11, 0)] (.sadd32 (rdField w) (raField w) (rbField w))
  | 0x11 => whenZero w [(11, 0)] (.ssub32 (rdField w) (raField w) (rbField w))
  | 0x12 => whenZero w [(11, 0)] (.sadd16 (rdField w) (raField w) (rbField w))
  | 0x13 => whenZero w [(11, 0)] (.ssub16 (rdField w) (raField w) (rbField w))
  | 0x14 => whenZero w [(15, 0)] (.sneg32 (rdField w) (raField w))
  | 0x15 => whenZero w [(15, 0)] (.sneg16 (rdField w) (raField w))
  | 0x16 => whenZero w [(15, 0)] (.q15to31 (rdField w) (raField w))
  | 0x17 => whenZero w [(15, 0)] (.q31to15 (rdField w) (raField w))
  | 0x18 => whenZero w [(11, 0)] (.mulh (rdField w) (raField w) (rbField w))
  | 0x19 => whenZero w [(11, 0)] (.smul31 (rdField w) (raField w) (rbField w))
  | 0x1A => whenZero w [(11, 0)] (.smul15 (rdField w) (raField w) (rbField w))
  | 0x1B => whenZero w [(11, 5)] (.mulhs (rdField w) (raField w) (rbField w) (bitField w 4 0))
  | 0x1C => whenZero w [(15, 5)] (.sshl32 (rdField w) (raField w) (bitField w 4 0))
  | 0x1D => whenZero w [(15, 5)] (.asr32 (rdField w) (raField w) (bitField w 4 0))
  | 0x1E => whenZero w [(15, 0)] (.sat16 (rdField w) (raField w))
  | 0x20 => whenZero w [(19, 0)] (.take (rdField w))
  | 0x21 => whenZero w [(19, 0)] (.takeb (rdField w))
  | 0x22 => whenZero w [(23, 20), (15, 0)] (.give (raField w))
  | 0x23 => whenZero w [(19, 0)] (.ctake (rdField w))
  | 0x24 => whenZero w [(23, 20), (15, 0)] (.cgive (raField w))
  | 0x25 => whenZero w [(23, 20), (11, 0)] (.setcnt (raField w) (rbField w))
  | 0x26 => whenZero w [(15, 0)] (.getcnt (rdField w) (raField w))
  | 0x28 => whenZero w [(11, 0)] (.sts (rdField w) (raField w) (rbField w))
  | 0x29 => whenZero w [(11, 0)] (.lds (rdField w) (raField w) (rbField w))
  | 0x2A => whenZero w [(11, 0)] (.stf (rdField w) (raField w) (rbField w))
  | 0x2B => whenZero w [(11, 0)] (.ldf (rdField w) (raField w) (rbField w))
  | 0x2C => whenZero w [(23, 0)] .flush
  | 0x30 => whenZero w [(19, 12)] (.coefwr (rdField w) (bitField w 11 4) (bitField w 3 0))
  | 0x31 => whenZero w [(19, 12)] (.coefrd (rdField w) (bitField w 11 4) (bitField w 3 0))
  | 0x32 => whenZero w [(23, 0)] .commit
  | 0x33 => whenZero w [(23, 1)] (.eqen (decide (bitField w 0 0 = 1)))
  | 0x34 => whenZero w [(23, 20), (15, 1)] (.bqrun (raField w) (Fin.ofNat 2 w.toNat))
  | 0x35 => whenZero w [(19, 16)]
      (.strd (rdField w) (bitField w 15 12) (bitField w 11 4) (bitField w 3 0))
  | 0x40 => whenZero w [(23, 20), (15, 0)] (.fork (raField w))
  | 0x41 => whenZero w [(19, 0)] (.accept (rdField w))
  | 0x42 => whenZero w [(23, 0)] .done
  | 0x43 => whenZero w [(23, 0)] .join
  | 0x44 => whenZero w [(23, 0)] .fence
  | _ => .error .unassignedOp

/-- A word of format R, RS or N from its fields (R90). -/
def packR (op rd ra rb fn : Nat) : Word :=
  BitVec.ofNat 32 (op * 2 ^ 24 + rd * 2 ^ 20 + ra * 2 ^ 16 + rb * 2 ^ 12 + fn)

/-- A word of format I from its fields (R90). -/
def packI (op rd ra imm : Nat) : Word :=
  BitVec.ofNat 32 (op * 2 ^ 24 + rd * 2 ^ 20 + ra * 2 ^ 16 + imm)

/-- The command word of a well-formed command (R90, R92, R94). -/
def encode : Instr → Word
  | .nop => packR 0x00 0 0 0 0
  | .ldi rd imm => packI 0x01 rd.val 0 imm.toNat
  | .ldih rd imm => packI 0x02 rd.val 0 imm.toNat
  | .mov rd ra => packR 0x03 rd.val ra.val 0 0
  | .get ra => packR 0x04 0 ra.val 0 0
  | .csrrd rd csr => packI 0x08 rd.val 0 csr.toNat
  | .csrwr rs csr => packI 0x09 rs.val 0 csr.toNat
  | .sadd32 rd ra rb => packR 0x10 rd.val ra.val rb.val 0
  | .ssub32 rd ra rb => packR 0x11 rd.val ra.val rb.val 0
  | .sadd16 rd ra rb => packR 0x12 rd.val ra.val rb.val 0
  | .ssub16 rd ra rb => packR 0x13 rd.val ra.val rb.val 0
  | .sneg32 rd ra => packR 0x14 rd.val ra.val 0 0
  | .sneg16 rd ra => packR 0x15 rd.val ra.val 0 0
  | .q15to31 rd ra => packR 0x16 rd.val ra.val 0 0
  | .q31to15 rd ra => packR 0x17 rd.val ra.val 0 0
  | .mulh rd ra rb => packR 0x18 rd.val ra.val rb.val 0
  | .smul31 rd ra rb => packR 0x19 rd.val ra.val rb.val 0
  | .smul15 rd ra rb => packR 0x1A rd.val ra.val rb.val 0
  | .mulhs rd ra rb sh => packR 0x1B rd.val ra.val rb.val sh
  | .sshl32 rd ra sh => packR 0x1C rd.val ra.val 0 sh
  | .asr32 rd ra sh => packR 0x1D rd.val ra.val 0 sh
  | .sat16 rd ra => packR 0x1E rd.val ra.val 0 0
  | .take rd => packR 0x20 rd.val 0 0 0
  | .takeb rd => packR 0x21 rd.val 0 0 0
  | .give ra => packR 0x22 0 ra.val 0 0
  | .ctake rd => packR 0x23 rd.val 0 0 0
  | .cgive ra => packR 0x24 0 ra.val 0 0
  | .setcnt ra rb => packR 0x25 0 ra.val rb.val 0
  | .getcnt rd ra => packR 0x26 rd.val ra.val 0 0
  | .sts rs ra rb => packR 0x28 rs.val ra.val rb.val 0
  | .lds rd ra rb => packR 0x29 rd.val ra.val rb.val 0
  | .stf rs ra rb => packR 0x2A rs.val ra.val rb.val 0
  | .ldf rd ra rb => packR 0x2B rd.val ra.val rb.val 0
  | .flush => packR 0x2C 0 0 0 0
  | .coefwr rs k j => packI 0x30 rs.val 0 (k * 2 ^ 4 + j)
  | .coefrd rd k j => packI 0x31 rd.val 0 (k * 2 ^ 4 + j)
  | .commit => packR 0x32 0 0 0 0
  | .eqen e => packI 0x33 0 0 e.toNat
  | .bqrun ra c => packI 0x34 0 ra.val c.val
  | .strd rd c k j => packI 0x35 rd.val 0 (c * 2 ^ 12 + k * 2 ^ 4 + j)
  | .fork ra => packR 0x40 0 ra.val 0 0
  | .accept rd => packR 0x41 rd.val 0 0 0
  | .done => packR 0x42 0 0 0 0
  | .join => packR 0x43 0 0 0 0
  | .fence => packR 0x44 0 0 0 0

/-- The command the decoder reads from the low `nbits` bits of `w`; a command is one 32-bit word (R90). -/
def decodeTableWord (nbits w : Nat) : Option Instr :=
  if nbits ≤ 32 then (decode (BitVec.ofNat 32 (w % 2 ^ nbits))).toOption else none

end Sys2Proof
end

