-- ==== Sys2Proof/Config.lean ====
section
/-! DEFINITION. The implementation parameters (spec/00_scope.md R8): constants of an instance. The machine
is defined for every record of parameters; State carries the one it was built with and no step changes it. -/

namespace Sys2Proof

/-- `ACC_MODE`: how the five terms of a stage are summed (R193). -/
inductive AccMode where
  | wide
  | stepwise
  deriving DecidableEq, Repr

/-- The parameters of R8. `NCH` is fixed at 2 and `POST_SHIFT` is derived. -/
structure Params where
  /-- `NBUF`, buffers in the pool -/
  nbuf : Nat
  /-- `CAP`, frames of one buffer -/
  cap : Nat
  /-- `NBAND`, biquad stages in the cascade -/
  nband : Nat
  /-- `COEF_FRAC`, fractional bits of a coefficient word -/
  coefFrac : Nat
  /-- `ACC_MODE` -/
  accMode : AccMode
  /-- `WB_DEPTH`; `none` is `INF` -/
  wbDepth : Option Nat
  deriving DecidableEq, Repr

/-- `POST_SHIFT`, always `32 - COEF_FRAC` (R8). -/
def Params.postShift (c : Params) : Nat := 32 - c.coefFrac

/-- Inside the ranges of R8. -/
def Params.legal (c : Params) : Bool :=
  decide (1 ≤ c.nbuf ∧ c.nbuf ≤ 255 ∧ 1 ≤ c.cap ∧ c.cap ≤ 32767 ∧ 1 ≤ c.nband ∧ c.nband ≤ 255 ∧
    1 ≤ c.coefFrac ∧ c.coefFrac ≤ 30)

/-- The default instance of R8. -/
def Params.default : Params :=
  { nbuf := 8, cap := 128, nband := 8, coefFrac := 28, accMode := .wide, wbDepth := none }

end Sys2Proof
end

