-- ==== Sys2Proof/Machine/State.lean ====
section
/-! DEFINITION. The state of FXAU (spec/10_state.md R20, "Nothing else is state"), the model's inputs beside
it (the three command lists and the schedule), and the state after reset (R54, spec/70_reset_and_hazards.md
R270). Plain data throughout. -/

namespace Sys2Proof.Machine

open Sys2Proof

/-- The three command ports (spec/00_scope.md R9): the producing core, the second core, the consumer. -/
inductive Port where
  | a
  | b
  | c
  deriving DecidableEq, Repr

/-- The two core ports, which have a posted-write buffer and an engine each (R11). -/
inductive CorePort where
  | a
  | b
  deriving DecidableEq, Repr

/-- The seven agents that take steps (R9, R11, R14). -/
inductive Agent where
  | port (p : Port)
  | drain (q : CorePort)
  | engine (q : CorePort)
  deriving DecidableEq, Repr

/-- The sub-causes of InvalidParameter (spec/60_exceptions.md R241). -/
inductive SubCause where
  | reserved
  | port
  | range
  | owner
  | protocol
  | csr
  deriving DecidableEq, Repr

/-- The status of a completed command (R240); only InvalidParameter has a sub-cause. -/
inductive Cond where
  | ok
  | resourceExhausted
  | invalidParameter (sub : SubCause)
  | overflowSaturated
  deriving DecidableEq, Repr

/-- `STATUS[p]` (R26, R27): code and sub of the latest completed command, and the sticky `QF`. -/
structure Status where
  cond : Cond
  qf : Bool
  deriving DecidableEq, Repr

/-- The response to a command (R10). -/
structure Response where
  cond : Cond
  rdata : Word
  deriving DecidableEq, Repr

/-- What belongs to one port alone (R20, R21, R24, R25, R26). `prog` is the command list of the port's agent,
an input of the model (R24, R53); `resp` is the response to the latest completed command (R10). -/
structure PortState where
  x : Vector Word 16
  cp : Nat
  outstanding : Option Word
  status : Status
  resp : Option Response
  prog : List Word
  deriving DecidableEq, Repr

/-- An entry of a posted-write buffer (R50). -/
inductive Posted where
  | smp (b s : Nat) (v : Half)
  | coef (k j : Nat) (v : Word)
  deriving DecidableEq, Repr

/-- A run of a cascade engine (R51). -/
structure Run where
  /-- buffer -/
  b : Nat
  /-- channel -/
  c : Fin 2
  /-- frame count captured at the start -/
  n : Nat
  /-- current frame -/
  i : Nat
  /-- current band -/
  k : Nat
  /-- running Q31 value, the output of band `k - 1` -/
  v : Word
  /-- a stage of this run has clamped -/
  sat : Bool
  deriving DecidableEq, Repr

/-- `E[p]` (R51). -/
inductive Engine where
  | idle
  | run (r : Run)
  deriving DecidableEq, Repr

/-- What belongs to one core port's buffer and engine (R50, R51). `wb` has the oldest entry first. -/
structure CoreState where
  wb : List Posted
  eng : Engine
  deriving DecidableEq, Repr

/-- The five ownership values of a buffer (R31). -/
inductive Own where
  | free
  | prod
  | split
  | queued
  | cons
  deriving DecidableEq, Repr

/-- The four barrier values (R37). -/
inductive BarState where
  | idle
  | goPending
  | bActive
  | donePending
  deriving DecidableEq, Repr

/-- The five coefficient words of a band (R34); `a1`, `a2` are stored already negated. -/
structure Coefs where
  b0 : Word
  b1 : Word
  b2 : Word
  a1 : Word
  a2 : Word
  deriving DecidableEq, Repr

/-- The four filter state words of a band of one channel (R35). -/
structure Delay where
  x1 : Word
  x2 : Word
  y1 : Word
  y2 : Word
  deriving DecidableEq, Repr

/-- `ESR` (R28). -/
structure Esr where
  res : Bool
  inv : Bool
  sat : Bool
  deriving DecidableEq, Repr

/-- Cells by index, one canonical form: indices strictly rising, none listed at the value an unlisted index
reads as (Machine/Table.lean has the operations). -/
abbrev Table (α : Type) := List (Nat × α)

/-- Why the machine stops with a fault. The spec has no fault (R250). -/
inductive Fault where
  /-- Raised by a drain or engine step whose entry or record names a cell outside the address spaces of R61
  and R62. No run from reset reaches it (Safety.lean). Safe: the model stops where the spec says nothing. -/
  | noSuchCell
  deriving DecidableEq, Repr

/-- Why a step has no meaning. -/
inductive Refusal where
  /-- Raised by an arm of exec whose command has no meaning yet; no arm is such. Safe. -/
  | notModelled (mnemonic : String)
  /-- Raised by step when the parameters are outside the ranges of R8 (spec/93_implementation_defined.md U7,
  treatment `refuse`). Safe. -/
  | parametersOutOfRange
  deriving DecidableEq, Repr

/-- The state of the unit and of the model's inputs. -/
structure State where
  /-- the parameters of the instance (R8); constant -/
  cfg : Params
  portA : PortState
  portB : PortState
  portC : PortState
  coreA : CoreState
  coreB : CoreState
  /-- sample memory (R29): buffer index to sample index to half -/
  smp : Table (Table Half)
  /-- `cnt[b]` (R30) -/
  cnt : Table Nat
  /-- `own[b]` (R31) -/
  own : Table Own
  /-- R32, head first -/
  freeq : List Nat
  /-- R32, head first -/
  outq : List Nat
  /-- coefficient table (R34): band to its five words -/
  coef : Table Coefs
  /-- filter state of channel 0 (R35): band to its four words -/
  st0 : Table Delay
  /-- filter state of channel 1 (R35) -/
  st1 : Table Delay
  /-- `EQ_EN` (R36) -/
  eqEn : Bool
  /-- `coef_dirty` (R36) -/
  coefDirty : Bool
  /-- `bar_state` (R37) -/
  bar : BarState
  /-- `job_buf` (R37) -/
  jobBuf : BitVec 8
  /-- `IE.GO_IE` (R38) -/
  goIe : Bool
  esr : Esr
  overrun : Word
  underrun : Word
  satcnt : Word
  /-- `lock[0]` (R52) -/
  lock0 : Option CorePort
  /-- `lock[1]` (R52) -/
  lock1 : Option CorePort
  /-- the model's own: the port whose command is being evaluated -/
  issuer : Port
  /-- the model's own: the agents still to take a step (R14), an input -/
  sched : List Agent
  deriving DecidableEq, Repr

/-- The answer of a step. -/
abbrev Result := Host.Outcome State Fault Refusal

/-- A port after reset with register contents `x` (R22, R54). -/
def PortState.reset (x : Vector Word 16) : PortState :=
  { x := x, cp := 0, outstanding := none, status := { cond := .ok, qf := false }, resp := none, prog := [] }

/-- The reset state of an instance, for given contents of what R22 and R29 leave unspecified: the registers of
the three ports and sample memory (spec/93_implementation_defined.md U1, U2). Every table that lists
nothing reads as R54 says (Machine/Ops.lean). -/
def State.resetOf (cfg : Params) (xa xb xc : Vector Word 16) (smp : Table (Table Half)) : State :=
  { cfg := cfg
    portA := PortState.reset xa
    portB := PortState.reset xb
    portC := PortState.reset xc
    coreA := { wb := [], eng := .idle }
    coreB := { wb := [], eng := .idle }
    smp := smp
    cnt := []
    own := []
    freeq := List.range cfg.nbuf
    outq := []
    coef := []
    st0 := []
    st1 := []
    eqEn := false
    coefDirty := false
    bar := .idle
    jobBuf := 0
    goIe := false
    esr := { res := false, inv := false, sat := false }
    overrun := 0
    underrun := 0
    satcnt := 0
    lock0 := none
    lock1 := none
    issuer := .a
    sched := [] }

/-- The reset state of the default instance (R8, R54). DESIGN CHOICE: registers and sample memory, which the
spec leaves unspecified, are zero here (notes/assumptions/3.md, 4.md; unsafe). -/
def State.reset : State :=
  State.resetOf Params.default (Vector.replicate 16 0) (Vector.replicate 16 0) (Vector.replicate 16 0) []

end Sys2Proof.Machine
end

