-- ==== Sys2Proof/Machine/Table.lean ====
section
/-! DEFINITION. Reading and writing cells by index. Sample memory, `cnt`, `own`, the coefficient table and the
filter state are all held this way (spec/20_memory.md R60: spaces are indexed by small integers). `d` gives
what an unlisted index reads as. -/

namespace Sys2Proof.Machine

/-- The value at index `k`. -/
def Table.look {α : Type} (d : Nat → α) : Table α → Nat → α
  | [], k => d k
  | (k', v) :: t, k => if k = k' then v else Table.look d t k

/-- The table without index `k`. -/
def Table.erase {α : Type} (t : Table α) (k : Nat) : Table α := t.filter (fun e => !decide (e.1 = k))

/-- The table with `(k, v)` put before the first larger index. -/
def Table.place {α : Type} (k : Nat) (v : α) : Table α → Table α
  | [] => [(k, v)]
  | (k', v') :: t => if k < k' then (k, v) :: (k', v') :: t else (k', v') :: Table.place k v t

/-- The table with `v` at index `k`, in canonical form if it was: a value that an unlisted index would read
as is not listed. -/
def Table.store {α : Type} [DecidableEq α] (d : Nat → α) (t : Table α) (k : Nat) (v : α) : Table α :=
  if v = d k then Table.erase t k else Table.place k v (Table.erase t k)

/-- Canonical form: indices strictly rising, no value that an unlisted index would read as. -/
def Table.wf {α : Type} [DecidableEq α] (d : Nat → α) : Table α → Bool
  | [] => true
  | (k, v) :: t => !decide (v = d k) && t.all (fun e => decide (k < e.1)) && Table.wf d t

end Sys2Proof.Machine
end

