-- ==== Sys2Proof/Machine/Operands.lean ====
section
/-! DEFINITION. How operands are read as numbers and numbers written as words (spec/00_scope.md R15,
spec/41_fixedpoint.md R131), on unbounded integers. -/

namespace Sys2Proof.Machine

open Sys2Proof

/-- `s32(w)`, the signed value of a word (R15). -/
def s32 (w : Word) : Int := w.toInt

/-- `s16(h)`, the signed value of a half (R15). -/
def s16 (h : Half) : Int := h.toInt

/-- Bits 15:0 of a word. -/
def lowHalf (w : Word) : Half := w.setWidth 16

/-- Bits 31:16 of a word. -/
def highHalf (w : Word) : Half := (w >>> 16).setWidth 16

/-- `sext_16(w)` (R15). -/
def sext16 (w : Word) : Int := s16 (lowHalf w)

/-- `w32(n)`, the word `n mod 2^32` (R15). -/
def w32 (n : Int) : Word := BitVec.ofInt 32 n

/-- A natural number as a word. -/
def wordOfNat (n : Nat) : Word := BitVec.ofNat 32 n

/-- `floor_shr(n, k)`, rounding toward minus infinity (R15). -/
def floorShr (n : Int) (k : Nat) : Int := n / ((2 ^ k : Nat) : Int)

/-- `n * 2^k`. -/
def scaleUp (n : Int) (k : Nat) : Int := n * ((2 ^ k : Nat) : Int)

/-- The multiply-high primitive: bits 63:32 of the exact signed product (R131). -/
def mulHigh (a b : Word) : Int := floorShr (s32 a * s32 b) 32

/-- A Q15 half as a Q31 word, `h :: 0x0000` (R142, R195). -/
def q15ToQ31 (h : Half) : Word := w32 (scaleUp (s16 h) 16)

/-- A Q31 word as a Q15 half, bits 31:16 (R195). -/
def q31ToQ15 (w : Word) : Half := highHalf w

end Sys2Proof.Machine
end

