-- ==== Sys2Proof/Machine/Flags.lean ====
section
/-! DEFINITION. Saturation and the flag it reports (spec/00_scope.md R15, spec/41_fixedpoint.md R133), the
numbers of the status codes (spec/60_exceptions.md R240, R241) and of the other small values software reads
(spec/10_state.md R31, R37, R43), and the saturating count of an event (R39). -/

namespace Sys2Proof.Machine

open Sys2Proof

/-- A number brought inside `lo .. hi`, and whether it lay outside. -/
def clampTo (lo hi n : Int) : Int × Bool := (min (max n lo) hi, decide (n < lo ∨ hi < n))

/-- `SAT32(n)` (R15). -/
def sat32 (n : Int) : Int × Bool := clampTo (-2147483648) 2147483647 n

/-- `SAT16(n)` (R15). -/
def sat16 (n : Int) : Int × Bool := clampTo (-32768) 32767 n

/-- One more event; a counter at `0xFFFFFFFF` stays there (R39). -/
def countEvent (n : Word) : Word := if n = 0xFFFFFFFF#32 then n else n + 1#32

/-- The number of a sub-cause (R241). -/
def SubCause.number : SubCause → BitVec 4
  | .reserved => 1
  | .port => 2
  | .range => 3
  | .owner => 4
  | .protocol => 5
  | .csr => 6

/-- The 4-bit status code (R240). -/
def Cond.code : Cond → BitVec 4
  | .ok => 0
  | .resourceExhausted => 1
  | .invalidParameter _ => 2
  | .overflowSaturated => 3

/-- The 4-bit sub-cause; 0 for the codes that have none (R240). -/
def Cond.sub : Cond → BitVec 4
  | .invalidParameter c => c.number
  | _ => 0

/-- The number of an ownership value (R31). -/
def Own.number : Own → BitVec 3
  | .free => 0
  | .prod => 1
  | .split => 2
  | .queued => 3
  | .cons => 4

/-- The number of a barrier value (R37). -/
def BarState.number : BarState → BitVec 2
  | .idle => 0
  | .goPending => 1
  | .bActive => 2
  | .donePending => 3

/-- The number of a channel lock (R43). -/
def lockNumber : Option CorePort → BitVec 2
  | none => 0
  | some .a => 1
  | some .b => 2

/-- A bit as a one-bit vector. -/
def bit (b : Bool) : BitVec 1 := BitVec.ofBool b

end Sys2Proof.Machine
end

