-- ==== Sys2Proof/Machine/Ops.lean ====
section
/-! DEFINITION. The named operations over registers, memory, the pool, the posted-write buffers, and the four
ways a command completes (spec/60_exceptions.md R240 to R243: the unit's only exceptions are these statuses;
nothing is saved, no handler is entered and there is no return, R250, R251). -/

namespace Sys2Proof.Machine

open Sys2Proof

/-! ### Ports and core ports -/

/-- The core port of a command port; port C has none (R50, R51). -/
def Port.core : Port → Option CorePort
  | .a => some .a
  | .b => some .b
  | .c => none

/-- The command port of a core port. -/
def CorePort.port : CorePort → Port
  | .a => .a
  | .b => .b

def State.port (s : State) : Port → PortState
  | .a => s.portA
  | .b => s.portB
  | .c => s.portC

def State.setPort (s : State) (p : Port) (ps : PortState) : State :=
  { s with
    portA := if p = .a then ps else s.portA
    portB := if p = .b then ps else s.portB
    portC := if p = .c then ps else s.portC }

def State.core (s : State) : CorePort → CoreState
  | .a => s.coreA
  | .b => s.coreB

def State.setCore (s : State) (q : CorePort) (cs : CoreState) : State :=
  { s with
    coreA := if q = .a then cs else s.coreA
    coreB := if q = .b then cs else s.coreB }

/-! ### Registers -/

/-- `x[r]` of port `p` (R21). -/
def State.reg (s : State) (p : Port) (r : Reg) : Word := (s.port p).x[r.val]

/-- `x[r] <- v` of port `p` (R21). -/
def State.setReg (s : State) (p : Port) (r : Reg) (v : Word) : State :=
  s.setPort p { s.port p with x := (s.port p).x.set r.val v }

/-- A source operand: a register of the issuing port as a word (R93). -/
def State.opd (s : State) (r : Reg) : Word := s.reg s.issuer r

/-- A handle, index or count: the whole register word as an unsigned integer (R93). -/
def State.idx (s : State) (r : Reg) : Nat := (s.opd r).toNat

/-! ### Completing a command -/

/-- The response of a command of port `p`: STATUS records it, `cp` advances, nothing is outstanding (R10,
R24, R25, R26). -/
def State.respond (s : State) (p : Port) (c : Cond) (rdata : Word) : State :=
  s.setPort p
    { s.port p with
      status := { (s.port p).status with cond := c }
      cp := (s.port p).cp + 1
      outstanding := none
      resp := some { cond := c, rdata := rdata } }

/-- Set the sticky `QF` of port `p` (R27). -/
def State.raiseQf (s : State) (p : Port) : State :=
  s.setPort p { s.port p with status := { (s.port p).status with qf := true } }

/-- Completion with status OK. -/
def State.okay (s : State) (rdata : Word) : State := s.respond s.issuer .ok rdata

/-- Completion with a result: `x[rd] <- v`, `rdata = v`, status OK. -/
def State.answer (s : State) (rd : Reg) (v : Word) : State := (s.setReg s.issuer rd v).okay v

/-- InvalidParameter: `ESR.INV` and STATUS, nothing else, `rdata = 0` (R241). -/
def State.reject (s : State) (c : SubCause) : State :=
  ({ s with esr := { s.esr with inv := true } } : State).respond s.issuer (.invalidParameter c) 0

/-- ResourceExhausted: the invalid handle in `x[rd]`, `ESR.RES` (R242). -/
def State.exhaust (s : State) (rd : Reg) : State :=
  ({ s with esr := { s.esr with res := true } } : State).setReg s.issuer rd 0xFFFFFFFF#32
    |>.respond s.issuer .resourceExhausted 0xFFFFFFFF#32

/-- OverflowSaturated of an arithmetic command: the clamped value is written, `QF` and `ESR.SAT` are set
(R130, R243). -/
def State.saturate (s : State) (rd : Reg) (v : Word) : State :=
  ((({ s with esr := { s.esr with sat := true } } : State).setReg s.issuer rd v).raiseQf s.issuer).respond
    s.issuer .overflowSaturated v

/-- Completion of an arithmetic command whose result went through SAT32 or SAT16 (R130). -/
def State.answerClamped (s : State) (rd : Reg) (r : Int × Bool) : State :=
  if r.2 then s.saturate rd (w32 r.1) else s.answer rd (w32 r.1)

/-! ### Validation, holds, effects -/

/-- The sub-cause of the first check that fails (R246). -/
def firstFailed : List (SubCause × Bool) → Option SubCause
  | [] => none
  | (c, passes) :: rest => if passes then firstFailed rest else some c

/-- Evaluation of a command (R12): the checks in the order of R246, then the hold, then the effects. A held
command changes nothing and stays outstanding (R13). -/
def State.evaluate (s : State) (checks : List (SubCause × Bool)) (hold : Bool) (effects : State) : Result :=
  match firstFailed checks with
  | some c => .next (s.reject c)
  | none => if hold then .next s else .next effects

/-! ### Pool -/

/-- `own[b]` (R31, FREE after reset). -/
def State.ownOf (s : State) (b : Nat) : Own := Table.look (fun _ => Own.free) s.own b

def State.setOwn (s : State) (b : Nat) (o : Own) : State :=
  { s with own := Table.store (fun _ => Own.free) s.own b o }

/-- `cnt[b]` (R30, 0 after reset). -/
def State.cntOf (s : State) (b : Nat) : Nat := Table.look (fun _ => 0) s.cnt b

def State.setCnt (s : State) (b : Nat) (n : Nat) : State :=
  { s with cnt := Table.store (fun _ => 0) s.cnt b n }

/-- The producer takes buffer `b`, leaving `rest` on the free list (R161, R162). -/
def State.acquire (s : State) (b : Nat) (rest : List Nat) : State :=
  (({ s with freeq := rest } : State).setOwn b .prod).setCnt b 0

/-- The rights of R66 to write samples and to run the filter. -/
def State.mayWrite (s : State) (p : Port) (b : Nat) : Bool :=
  match p with
  | .a => decide (s.ownOf b = .prod ∨ s.ownOf b = .split)
  | .b => decide (s.ownOf b = .split ∧ s.bar = .bActive ∧ s.jobBuf.toNat = b)
  | .c => false

/-- The rights of R66 to read samples. -/
def State.mayRead (s : State) (p : Port) (b : Nat) : Bool :=
  match p with
  | .a => s.mayWrite .a b
  | .b => s.mayWrite .b b
  | .c => decide (s.ownOf b = .cons)

/-! ### Sample memory, coefficients, filter state -/

/-- What a sample that nothing has written reads as. DESIGN CHOICE (notes/assumptions/4.md, unsafe): the
spec leaves it unspecified (R29). -/
def unwrittenSample : Half := 0#16

/-- The half in memory at `Smp[b][i]` (R29). -/
def State.smpAt (s : State) (b i : Nat) : Half :=
  Table.look (fun _ => unwrittenSample) (Table.look (fun _ => []) s.smp b) i

/-- `Smp[b][i] <- v` in memory. -/
def State.setSmp (s : State) (b i : Nat) (v : Half) : State :=
  { s with
    smp := Table.store (fun _ => []) s.smp b
      (Table.store (fun _ => unwrittenSample) (Table.look (fun _ => []) s.smp b) i v) }

/-- The coefficients of a band after reset: the identity filter (R34). -/
def Params.identity (c : Params) : Coefs :=
  { b0 := BitVec.ofNat 32 (2 ^ c.coefFrac), b1 := 0, b2 := 0, a1 := 0, a2 := 0 }

/-- The five words of band `k` in memory (R34). -/
def State.coefsAt (s : State) (k : Nat) : Coefs := Table.look (fun _ => Params.identity s.cfg) s.coef k

/-- Word `j` of a band, `j` = 0 to 4 for `b0, b1, b2, a1, a2` (R34). -/
def Coefs.word (c : Coefs) : Nat → Word
  | 0 => c.b0
  | 1 => c.b1
  | 2 => c.b2
  | 3 => c.a1
  | 4 => c.a2
  | _ => 0

/-- A band with word `j` replaced. -/
def Coefs.setWord (c : Coefs) (j : Nat) (v : Word) : Coefs :=
  match j with
  | 0 => { c with b0 := v }
  | 1 => { c with b1 := v }
  | 2 => { c with b2 := v }
  | 3 => { c with a1 := v }
  | 4 => { c with a2 := v }
  | _ => c

/-- The word in memory at `Coef[k][j]`. -/
def State.coefAt (s : State) (k j : Nat) : Word := (s.coefsAt k).word j

/-- `Coef[k][j] <- v` in memory. -/
def State.setCoef (s : State) (k j : Nat) (v : Word) : State :=
  { s with coef := Table.store (fun _ => Params.identity s.cfg) s.coef k ((s.coefsAt k).setWord j v) }

/-- Filter state words of zero (R35). -/
def Delay.zero : Delay := { x1 := 0, x2 := 0, y1 := 0, y2 := 0 }

/-- Word `j` of a band's filter state, `j` = 0 to 3 for `x1, x2, y1, y2` (R35). -/
def Delay.word (d : Delay) : Nat → Word
  | 0 => d.x1
  | 1 => d.x2
  | 2 => d.y1
  | 3 => d.y2
  | _ => 0

/-- The filter state of band `k` of channel `c` (R35). -/
def State.delayAt (s : State) (c : Fin 2) (k : Nat) : Delay :=
  Table.look (fun _ => Delay.zero) (if c = 0 then s.st0 else s.st1) k

def State.setDelay (s : State) (c : Fin 2) (k : Nat) (d : Delay) : State :=
  { s with
    st0 := if c = 0 then Table.store (fun _ => Delay.zero) s.st0 k d else s.st0
    st1 := if c = 1 then Table.store (fun _ => Delay.zero) s.st1 k d else s.st1 }

/-- The filter state word `St[c][k][j]`. -/
def State.stAt (s : State) (c : Fin 2) (k j : Nat) : Word := (s.delayAt c k).word j

/-- `St[c][k][j] <- 0` for every `c`, `k`, `j` (R199, R200, R179). -/
def State.zeroFilter (s : State) : State := { s with st0 := [], st1 := [] }

/-! ### Channel locks and engines -/

/-- `lock[c]` (R52). -/
def State.lockOf (s : State) (c : Fin 2) : Option CorePort := if c = 0 then s.lock0 else s.lock1

def State.setLock (s : State) (c : Fin 2) (l : Option CorePort) : State :=
  { s with lock0 := if c = 0 then l else s.lock0, lock1 := if c = 1 then l else s.lock1 }

/-- `E[q]` (R51). -/
def State.engine (s : State) (q : CorePort) : Engine := (s.core q).eng

def State.setEngine (s : State) (q : CorePort) (e : Engine) : State :=
  s.setCore q { s.core q with eng := e }

/-- The engine of port `p` is running; port C has none. -/
def State.engineBusy (s : State) (p : Port) : Bool :=
  match p.core with
  | none => false
  | some q => decide (s.engine q ≠ .idle)

/-! ### Posted writes -/

/-- `WB[q]`, oldest entry first (R50). -/
def State.wb (s : State) (q : CorePort) : List Posted := (s.core q).wb

def State.setWb (s : State) (q : CorePort) (w : List Posted) : State :=
  s.setCore q { s.core q with wb := w }

/-- The fence condition of port `p` (R74); it always holds on port C, which has no buffer. -/
def State.fenced (s : State) (p : Port) : Bool :=
  match p.core with
  | none => true
  | some q => decide (s.wb q = [])

/-- An entry written to memory (R71). -/
def State.commitPosted (s : State) : Posted → State
  | .smp b i v => s.setSmp b i v
  | .coef k j v => s.setCoef k j v

/-- Whether the posted-write buffer could ever hold `m` entries (R70). -/
def Params.postable (c : Params) (m : Nat) : Bool :=
  match c.wbDepth with
  | none => true
  | some d => decide (m ≤ d)

/-- The hold condition of a posted command of `m` entries on port `q` (R70). -/
def State.postHold (s : State) (q : CorePort) (m : Nat) : Bool :=
  match s.cfg.wbDepth with
  | none => false
  | some d => if m ≤ d then decide (d < (s.wb q).length + m) else decide (s.wb q ≠ [])

/-- The writes of a posted command: appended in order, or, when the buffer could never hold them, performed
in order in this step (R70). -/
def State.post (s : State) (q : CorePort) (es : List Posted) : State :=
  if Params.postable s.cfg es.length then s.setWb q (s.wb q ++ es) else es.foldl State.commitPosted s

/-- The hold condition of a posted command on port `p`; port C posts nothing (R50). -/
def State.portPostHold (s : State) (p : Port) (m : Nat) : Bool :=
  match p.core with
  | none => false
  | some q => s.postHold q m

/-- The writes of a posted command of port `p`. -/
def State.portPost (s : State) (p : Port) (es : List Posted) : State :=
  match p.core with
  | none => s
  | some q => s.post q es

/-- The youngest posted value for the sample cell, if any (R73). -/
def youngestSmp (b i : Nat) : List Posted → Option Half
  | [] => none
  | e :: rest =>
    match youngestSmp b i rest with
    | some v => some v
    | none =>
      match e with
      | .smp b' i' v => if b' = b ∧ i' = i then some v else none
      | .coef _ _ _ => none

/-- The youngest posted value for the coefficient cell, if any (R73). -/
def youngestCoef (k j : Nat) : List Posted → Option Word
  | [] => none
  | e :: rest =>
    match youngestCoef k j rest with
    | some v => some v
    | none =>
      match e with
      | .coef k' j' v => if k' = k ∧ j' = j then some v else none
      | .smp _ _ _ => none

/-- The posted entries a read of port `p` looks at: its own; none on port C (R73). -/
def State.ownPosted (s : State) (p : Port) : List Posted :=
  match p.core with
  | none => []
  | some q => s.wb q

/-- `MemRead(SMP[b][i], 16)` by a command of port `p` (R73). -/
def State.readSmp (s : State) (p : Port) (b i : Nat) : Half :=
  (youngestSmp b i (s.ownPosted p)).getD (s.smpAt b i)

/-- `MemRead(COEF[k][j], 32)` by a command of port `p` (R73). -/
def State.readCoef (s : State) (p : Port) (k j : Nat) : Word :=
  (youngestCoef k j (s.ownPosted p)).getD (s.coefAt k j)

/-! ### Ranges of the address spaces -/

/-- A buffer and sample index of SMP (R61). -/
def Params.smpInRange (c : Params) (b i : Nat) : Bool := decide (b < c.nbuf ∧ i < 2 * c.cap)

/-- A buffer and frame index of SMP (R61). -/
def Params.frameInRange (c : Params) (b f : Nat) : Bool := decide (b < c.nbuf ∧ f < c.cap)

/-- A band and coefficient index of COEF (R62). -/
def Params.coefInRange (c : Params) (k j : Nat) : Bool := decide (k < c.nband ∧ j < 5)

/-- A channel, band and state index of STATE (R62). -/
def Params.stInRange (c : Params) (ch k j : Nat) : Bool := decide (ch < 2 ∧ k < c.nband ∧ j < 4)

/-! ### The interrupt output -/

/-- The level of `irq_b` (R38, R248). -/
def State.irqB (s : State) : Bool := decide (s.bar = .goPending) && s.goIe

end Sys2Proof.Machine
end

