-- ==== Sys2Proof/Machine/Barrier.lean ====
section
/-! DEFINITION. DCD, the dual-core dispatcher and completion barrier (spec/44_dispatch.md R221 to R225). -/

namespace Sys2Proof.Machine

open Sys2Proof

/-- R221. -/
def execFork (ra : Reg) (s : State) : Result :=
  s.evaluate
    [(.port, decide (s.issuer = .a)), (.range, decide (s.idx ra < s.cfg.nbuf)),
      (.owner, decide (s.ownOf (s.idx ra) = .prod)), (.protocol, decide (s.bar = .idle))]
    (!s.fenced s.issuer)
    ((({ s with jobBuf := BitVec.ofNat 8 (s.idx ra), bar := .goPending } : State).setOwn (s.idx ra)
      .split).okay 0)

/-- R222. -/
def execAccept (rd : Reg) (s : State) : Result :=
  s.evaluate
    [(.port, decide (s.issuer = .b)), (.protocol, decide (s.bar ≠ .bActive))]
    (decide (s.bar = .idle ∨ s.bar = .donePending))
    (({ s with bar := .bActive } : State).answer rd (s.jobBuf.setWidth 32))

/-- R223. -/
def execDone (s : State) : Result :=
  s.evaluate
    [(.port, decide (s.issuer = .b)), (.protocol, decide (s.bar = .bActive))]
    (!s.fenced s.issuer)
    (({ s with bar := .donePending } : State).okay 0)

/-- R224. -/
def execJoin (s : State) : Result :=
  s.evaluate
    [(.port, decide (s.issuer = .a)), (.protocol, decide (s.bar ≠ .idle))]
    (decide (s.bar = .goPending ∨ s.bar = .bActive))
    ((({ s with bar := .idle } : State).setOwn s.jobBuf.toNat .prod).okay 0)

/-- R225: only the fence condition of the issuing port. -/
def execFence (s : State) : Result := s.evaluate [] (!s.fenced s.issuer) (s.okay 0)

end Sys2Proof.Machine
end

