-- ==== Sys2Proof/Machine/Biquad.lean ====
section
/-! DEFINITION. BQC, the biquad cascade core (spec/43_biquad.md): the stage function, the commands, and the
stage step of a cascade engine. -/

namespace Sys2Proof.Machine

open Sys2Proof

/-! ### The stage function -/

/-- One term of the STEPWISE sum: the shifted term and the partial sum are each saturated (R193). -/
def addTerm (postShift : Nat) (acc : Int × Bool) (t : Int) : Int × Bool :=
  let u := sat32 (scaleUp t postShift)
  let a := sat32 (acc.1 + u.1)
  (a.1, acc.2 || u.2 || a.2)

/-- `bqsum` (R193). -/
def bqsum (mode : AccMode) (postShift : Nat) (t0 t1 t2 t3 t4 : Int) : Int × Bool :=
  match mode with
  | .wide => sat32 (scaleUp (t0 + t1 + t2 + t3 + t4) postShift)
  | .stepwise => [t1, t2, t3, t4].foldl (addTerm postShift) (sat32 (scaleUp t0 postShift))

/-- What a stage returns (R191). -/
structure StageOut where
  y : Word
  delay : Delay
  clamped : Bool
  deriving DecidableEq, Repr

/-- The stage function (R191, R194): five multiply-highs on the state of before, every term added, then the
delay line shifts. -/
def stage (cfg : Params) (c : Coefs) (d : Delay) (xin : Word) : StageOut :=
  let r := bqsum cfg.accMode cfg.postShift (mulHigh c.b0 xin) (mulHigh c.b1 d.x1) (mulHigh c.b2 d.x2)
    (mulHigh c.a1 d.y1) (mulHigh c.a2 d.y2)
  { y := w32 r.1
    delay := { x1 := xin, x2 := d.x1, y1 := w32 r.1, y2 := d.y1 }
    clamped := r.2 }

/-! ### Commands -/

/-- R197: `coef_dirty` is set when the command executes; the word is posted. -/
def execCoefwr (rs : Reg) (k j : Nat) (s : State) : Result :=
  s.evaluate
    [(.port, s.issuer.core.isSome), (.range, Params.coefInRange s.cfg k j)]
    (s.portPostHold s.issuer 1)
    ((({ s with coefDirty := true } : State).portPost s.issuer [.coef k j (s.opd rs)]).okay 0)

/-- R198. -/
def execCoefrd (rd : Reg) (k j : Nat) (s : State) : Result :=
  s.evaluate
    [(.port, s.issuer.core.isSome), (.range, Params.coefInRange s.cfg k j)]
    false
    (s.answer rd (s.readCoef s.issuer k j))

/-- R199. -/
def execCommit (s : State) : Result :=
  s.evaluate [(.port, s.issuer.core.isSome)] (!s.fenced s.issuer)
    (({ s.zeroFilter with coefDirty := false } : State).okay 0)

/-- R200. -/
def execEqen (e : Bool) (s : State) : Result :=
  s.evaluate [(.port, s.issuer.core.isSome)] false (({ s.zeroFilter with eqEn := e } : State).okay 0)

/-- The start of a run on port `p`: the channel is locked and the engine starts; the command stays outstanding
(R203, R204). -/
def State.startRun (s : State) (p : Port) (b : Nat) (c : Fin 2) : State :=
  match p.core with
  | none => s
  | some q =>
    (s.setLock c (some q)).setEngine q
      (.run { b := b, c := c, n := s.cntOf b, i := 0, k := 0, v := 0, sat := false })

/-- R203, R201: bypass and an empty block complete at once. -/
def execBqrun (ra : Reg) (c : Fin 2) (s : State) : Result :=
  s.evaluate
    [(.port, s.issuer.core.isSome), (.range, decide (s.idx ra < s.cfg.nbuf)),
      (.owner, s.mayWrite s.issuer (s.idx ra))]
    (!s.fenced s.issuer || s.coefDirty || (s.lockOf c).isSome)
    (if s.eqEn = false ∨ s.cntOf (s.idx ra) = 0 then s.okay 0 else s.startRun s.issuer (s.idx ra) c)

/-- A channel number as the index of a state bank; used only for numbers below 2. -/
def channel (c : Nat) : Fin 2 := if c = 0 then 0 else 1

/-- R211. -/
def execStrd (rd : Reg) (c k j : Nat) (s : State) : Result :=
  s.evaluate [(.range, Params.stInRange s.cfg c k j)] false
    (s.answer rd (s.stAt (channel c) k j))

/-! ### The engine -/

/-- The end of a run: the lock and the engine are released and the outstanding BQRUN of the port completes
(R208). `ESR.SAT` was set by the stage steps that clamped and is not set again (R243, R244;
notes/assumptions/10.md). -/
def State.finishRun (s : State) (q : CorePort) (c : Fin 2) (sat : Bool) : State :=
  let t := (s.setLock c none).setEngine q .idle
  if sat then (t.raiseQf q.port).respond q.port .overflowSaturated 0 else t.respond q.port .ok 0

/-- `ESR.SAT` and `SATCNT` at a stage step that clamps (R206). -/
def State.noteClamp (s : State) (clamped : Bool) : State :=
  if clamped then { s with esr := { s.esr with sat := true }, satcnt := countEvent s.satcnt } else s

/-- The input of a stage step: the widened sample at band 0, else the output of the band before (R206). -/
def State.stageInput (s : State) (r : Run) : Word :=
  if r.k = 0 then q15ToQ31 (s.smpAt r.b (2 * r.i + r.c.val)) else r.v

/-- What the stage function gives for the engine's next stage step (R206). -/
def State.stageOut (s : State) (r : Run) : StageOut :=
  stage s.cfg (s.coefsAt r.k) (s.delayAt r.c r.k) (s.stageInput r)

/-- An engine stage step (R206). -/
def State.stageStep (s : State) (q : CorePort) (r : Run) : State :=
  let o := s.stageOut r
  let t := (s.setDelay r.c r.k o.delay).noteClamp o.clamped
  let sat := r.sat || o.clamped
  if r.k + 1 < s.cfg.nband then t.setEngine q (.run { r with k := r.k + 1, v := o.y, sat := sat })
  else
    let u := t.setSmp r.b (2 * r.i + r.c.val) (q31ToQ15 o.y)
    if r.i + 1 < r.n then u.setEngine q (.run { r with i := r.i + 1, k := 0, v := 0, sat := sat })
    else u.finishRun q r.c sat

/-- The cells a stage step names exist (R61, R62). -/
def Params.runInRange (c : Params) (r : Run) : Bool :=
  Params.smpInRange c r.b (2 * r.i + r.c.val) && decide (r.k < c.nband)

/-- The step of the engine of port `q`; none is enabled while it is idle. -/
def State.engineStep (s : State) (q : CorePort) : Result :=
  match s.engine q with
  | .idle => .next s
  | .run r => if Params.runInRange s.cfg r then .next (s.stageStep q r) else .fault .noSuchCell

end Sys2Proof.Machine
end

