-- ==== Sys2Proof/Machine/FixedPoint.lean ====
section
/-! DEFINITION. FPO, the fixed-point operations (spec/41_fixedpoint.md): every result is computed on unbounded
integers, then clamped or proved to fit (R133); 16-bit commands read bits 15:0 and write a sign-extended
result (R134). On every port, never held (R130). -/

namespace Sys2Proof.Machine

open Sys2Proof

/-- R136. -/
def execSadd32 (rd ra rb : Reg) (s : State) : Result :=
  .next (s.answerClamped rd (sat32 (s32 (s.opd ra) + s32 (s.opd rb))))

/-- R137. -/
def execSsub32 (rd ra rb : Reg) (s : State) : Result :=
  .next (s.answerClamped rd (sat32 (s32 (s.opd ra) - s32 (s.opd rb))))

/-- R138. -/
def execSadd16 (rd ra rb : Reg) (s : State) : Result :=
  .next (s.answerClamped rd (sat16 (sext16 (s.opd ra) + sext16 (s.opd rb))))

/-- R139. -/
def execSsub16 (rd ra rb : Reg) (s : State) : Result :=
  .next (s.answerClamped rd (sat16 (sext16 (s.opd ra) - sext16 (s.opd rb))))

/-- R140. -/
def execSneg32 (rd ra : Reg) (s : State) : Result :=
  .next (s.answerClamped rd (sat32 (-s32 (s.opd ra))))

/-- R141. -/
def execSneg16 (rd ra : Reg) (s : State) : Result :=
  .next (s.answerClamped rd (sat16 (-sext16 (s.opd ra))))

/-- R142. -/
def execQ15to31 (rd ra : Reg) (s : State) : Result :=
  .next (s.answer rd (w32 (scaleUp (sext16 (s.opd ra)) 16)))

/-- R143. -/
def execQ31to15 (rd ra : Reg) (s : State) : Result :=
  .next (s.answer rd (w32 (floorShr (s32 (s.opd ra)) 16)))

/-- R144. -/
def execMulh (rd ra rb : Reg) (s : State) : Result :=
  .next (s.answer rd (w32 (mulHigh (s.opd ra) (s.opd rb))))

/-- R145. -/
def execSmul31 (rd ra rb : Reg) (s : State) : Result :=
  .next (s.answerClamped rd (sat32 (floorShr (s32 (s.opd ra) * s32 (s.opd rb)) 31)))

/-- R146. -/
def execSmul15 (rd ra rb : Reg) (s : State) : Result :=
  .next (s.answerClamped rd (sat16 (floorShr (sext16 (s.opd ra) * sext16 (s.opd rb)) 15)))

/-- R147. -/
def execMulhs (rd ra rb : Reg) (sh : Nat) (s : State) : Result :=
  .next (s.answerClamped rd (sat32 (scaleUp (mulHigh (s.opd ra) (s.opd rb)) sh)))

/-- R148. -/
def execSshl32 (rd ra : Reg) (sh : Nat) (s : State) : Result :=
  .next (s.answerClamped rd (sat32 (scaleUp (s32 (s.opd ra)) sh)))

/-- R149. -/
def execAsr32 (rd ra : Reg) (sh : Nat) (s : State) : Result :=
  .next (s.answer rd (w32 (floorShr (s32 (s.opd ra)) sh)))

/-- R150. -/
def execSat16 (rd ra : Reg) (s : State) : Result :=
  .next (s.answerClamped rd (sat16 (s32 (s.opd ra))))

end Sys2Proof.Machine
end

