-- ==== Sys2Proof/Machine/Pool.lean ====
section
/-! DEFINITION. ABF, the buffer pool and sample access (spec/42_bufferpool.md). The checks of a command stand in
the order of R246; the ports allowed are those of R252. -/

namespace Sys2Proof.Machine

open Sys2Proof

/-- R161, R242: an empty free list answers ResourceExhausted and counts an overrun. -/
def execTake (rd : Reg) (s : State) : Result :=
  s.evaluate [(.port, decide (s.issuer = .a))] false <|
    match s.freeq with
    | [] => ({ s with overrun := countEvent s.overrun } : State).exhaust rd
    | b :: rest => (s.acquire b rest).answer rd (wordOfNat b)

/-- R162: held while the free list is empty. -/
def execTakeb (rd : Reg) (s : State) : Result :=
  s.evaluate [(.port, decide (s.issuer = .a))] (decide (s.freeq = [])) <|
    match s.freeq with
    | [] => s
    | b :: rest => (s.acquire b rest).answer rd (wordOfNat b)

/-- R163. -/
def execGive (ra : Reg) (s : State) : Result :=
  s.evaluate
    [(.port, decide (s.issuer = .a)), (.range, decide (s.idx ra < s.cfg.nbuf)),
      (.owner, decide (s.ownOf (s.idx ra) = .prod))]
    (!s.fenced s.issuer)
    ((({ s with outq := s.outq ++ [s.idx ra] } : State).setOwn (s.idx ra) .queued).okay 0)

/-- R165, R242: an empty output queue answers ResourceExhausted and counts an underrun. -/
def execCtake (rd : Reg) (s : State) : Result :=
  s.evaluate [(.port, decide (s.issuer = .c))] false <|
    match s.outq with
    | [] => ({ s with underrun := countEvent s.underrun } : State).exhaust rd
    | b :: rest => (({ s with outq := rest } : State).setOwn b .cons).answer rd (wordOfNat b)

/-- R166. -/
def execCgive (ra : Reg) (s : State) : Result :=
  s.evaluate
    [(.port, decide (s.issuer = .c)), (.range, decide (s.idx ra < s.cfg.nbuf)),
      (.owner, decide (s.ownOf (s.idx ra) = .cons))]
    false
    ((({ s with freeq := s.freeq ++ [s.idx ra] } : State).setOwn (s.idx ra) .free).okay 0)

/-- R168: the write is direct. -/
def execSetcnt (ra rb : Reg) (s : State) : Result :=
  s.evaluate
    [(.port, decide (s.issuer = .a)),
      (.range, decide (s.idx ra < s.cfg.nbuf ∧ s.idx rb ≤ s.cfg.cap)),
      (.owner, decide (s.ownOf (s.idx ra) = .prod ∨ s.ownOf (s.idx ra) = .split))]
    false
    ((s.setCnt (s.idx ra) (s.idx rb)).okay 0)

/-- R169: no ownership is needed. -/
def execGetcnt (rd ra : Reg) (s : State) : Result :=
  s.evaluate [(.range, decide (s.idx ra < s.cfg.nbuf))] false
    (s.answer rd (wordOfNat (s.cntOf (s.idx ra))))

/-- R170: posted, one entry. -/
def execSts (rs ra rb : Reg) (s : State) : Result :=
  s.evaluate
    [(.port, s.issuer.core.isSome), (.range, Params.smpInRange s.cfg (s.idx ra) (s.idx rb)),
      (.owner, s.mayWrite s.issuer (s.idx ra))]
    (s.portPostHold s.issuer 1)
    ((s.portPost s.issuer [.smp (s.idx ra) (s.idx rb) (lowHalf (s.opd rs))]).okay 0)

/-- R171: sign-extended, with forwarding. -/
def execLds (rd ra rb : Reg) (s : State) : Result :=
  s.evaluate
    [(.range, Params.smpInRange s.cfg (s.idx ra) (s.idx rb)), (.owner, s.mayRead s.issuer (s.idx ra))]
    false
    (s.answer rd (w32 (s16 (s.readSmp s.issuer (s.idx ra) (s.idx rb)))))

/-- R172: posted, two entries, channel 0 first. -/
def execStf (rs ra rb : Reg) (s : State) : Result :=
  s.evaluate
    [(.port, s.issuer.core.isSome), (.range, Params.frameInRange s.cfg (s.idx ra) (s.idx rb)),
      (.owner, s.mayWrite s.issuer (s.idx ra))]
    (s.portPostHold s.issuer 2)
    ((s.portPost s.issuer
      [.smp (s.idx ra) (2 * s.idx rb) (lowHalf (s.opd rs)),
        .smp (s.idx ra) (2 * s.idx rb + 1) (highHalf (s.opd rs))]).okay 0)

/-- R173: channel 0 in bits 15:0, channel 1 in bits 31:16, each half with its own forwarding. -/
def execLdf (rd ra rb : Reg) (s : State) : Result :=
  s.evaluate
    [(.range, Params.frameInRange s.cfg (s.idx ra) (s.idx rb)), (.owner, s.mayRead s.issuer (s.idx ra))]
    false
    (s.answer rd
      (s.readSmp s.issuer (s.idx ra) (2 * s.idx rb + 1) ++ s.readSmp s.issuer (s.idx ra) (2 * s.idx rb)))

/-- The pool, the barrier and the filter state as after reset (R179). -/
def State.flushed (s : State) : State :=
  ({ s with
    own := []
    cnt := []
    freeq := List.range s.cfg.nbuf
    outq := []
    bar := .idle
    jobBuf := 0 } : State).zeroFilter

/-- R179. -/
def execFlush (s : State) : Result :=
  s.evaluate
    [(.port, decide (s.issuer = .a)), (.protocol, decide (s.engine .b = .idle))]
    (!(s.fenced .a && s.fenced .b))
    (s.flushed.okay 0)

end Sys2Proof.Machine
end

