-- ==== Sys2Proof/Machine/Csr.lean ====
section
/-! DEFINITION. The control and status registers (spec/10_state.md R40 to R49): the map, every read view, every
write. -/

namespace Sys2Proof.Machine

open Sys2Proof

/-- The implemented registers of R40. -/
inductive Csr where
  | cfg0
  | cfg1
  | status
  | esr
  | eqctl
  | poolstat
  | overrun
  | underrun
  | satcnt
  | barstat
  | ie
  | bufstat (b : Nat)
  deriving DecidableEq, Repr

/-- The register with a given number, if it is implemented (R40, R49). -/
def csrAt (c : Params) (n : Nat) : Option Csr :=
  match n with
  | 0x0000 => some .cfg0
  | 0x0001 => some .cfg1
  | 0x0002 => some .status
  | 0x0003 => some .esr
  | 0x0004 => some .eqctl
  | 0x0005 => some .poolstat
  | 0x0006 => some .overrun
  | 0x0007 => some .underrun
  | 0x0008 => some .satcnt
  | 0x0009 => some .barstat
  | 0x000A => some .ie
  | _ => if 0x0100 ≤ n ∧ n < 0x0100 + c.nbuf then some (.bufstat (n - 0x0100)) else none

/-- How many buffers are in one of the ownership states `os`. -/
def State.countOwn (s : State) (os : List Own) : Nat :=
  ((List.range s.cfg.nbuf).filter (fun b => os.contains (s.ownOf b))).length

/-- `CFG0` (R40). -/
def cfg0Word (c : Params) : Word :=
  0#10 ++ bit (decide (c.accMode = .stepwise)) ++ BitVec.ofNat 5 c.coefFrac ++ BitVec.ofNat 8 c.nband ++
    BitVec.ofNat 8 c.nbuf

/-- `CFG1` (R40). -/
def cfg1Word (c : Params) : Word := 0#16 ++ BitVec.ofNat 16 c.cap

/-- `STATUS` (R41). -/
def statusWord (t : Status) : Word := 0#23 ++ bit t.qf ++ t.cond.sub ++ t.cond.code

/-- `ESR` (R42). -/
def esrWord (e : Esr) : Word := 0#29 ++ bit e.sat ++ bit e.inv ++ bit e.res

/-- `EQCTL` (R43). -/
def State.eqctlWord (s : State) : Word :=
  0#24 ++ lockNumber s.lock1 ++ lockNumber s.lock0 ++ bit (s.engineBusy .b) ++ bit (s.engineBusy .a) ++
    bit s.coefDirty ++ bit s.eqEn

/-- `POOLSTAT` (R44). -/
def State.poolstatWord (s : State) : Word :=
  BitVec.ofNat 8 (s.countOwn [.cons]) ++ BitVec.ofNat 8 (s.countOwn [.prod, .split]) ++
    BitVec.ofNat 8 s.outq.length ++ BitVec.ofNat 8 s.freeq.length

/-- `BARSTAT` (R46). -/
def State.barstatWord (s : State) : Word :=
  0#15 ++ bit s.irqB ++ s.jobBuf ++ 0#6 ++ s.bar.number

/-- `IE` (R47). -/
def State.ieWord (s : State) : Word := 0#31 ++ bit s.goIe

/-- `BUFSTAT[b]` (R48). -/
def State.bufstatWord (s : State) (b : Nat) : Word :=
  BitVec.ofNat 16 (s.cntOf b) ++ 0#13 ++ (s.ownOf b).number

/-- The value CSRRD returns to port `p` (R41 to R48, R116). -/
def State.csrRead (s : State) (p : Port) : Csr → Word
  | .cfg0 => cfg0Word s.cfg
  | .cfg1 => cfg1Word s.cfg
  | .status => statusWord (s.port p).status
  | .esr => esrWord s.esr
  | .eqctl => s.eqctlWord
  | .poolstat => s.poolstatWord
  | .overrun => s.overrun
  | .underrun => s.underrun
  | .satcnt => s.satcnt
  | .barstat => s.barstatWord
  | .ie => s.ieWord
  | .bufstat b => s.bufstatWord b

/-- Whether CSRWR may write the register (R49, R117). -/
def Csr.writable : Csr → Bool
  | .status | .esr | .overrun | .underrun | .satcnt | .ie => true
  | .cfg0 | .cfg1 | .eqctl | .poolstat | .barstat | .bufstat _ => false

/-- Clear `QF` of port `p` (R27, R41). -/
def State.clearQf (s : State) (p : Port) : State :=
  s.setPort p { s.port p with status := { (s.port p).status with qf := false } }

/-- `ESR and not v[2:0]` (R42). -/
def Esr.clear (e : Esr) (v : Word) : Esr :=
  { res := e.res && !v.getLsbD 0, inv := e.inv && !v.getLsbD 1, sat := e.sat && !v.getLsbD 2 }

/-- The effect of CSRWR of `v` by port `p` (R117); none on a register that is not writable. -/
def State.csrWrite (s : State) (p : Port) (v : Word) : Csr → State
  | .status => if v.getLsbD 8 then s.clearQf p else s
  | .esr => { s with esr := s.esr.clear v }
  | .overrun => { s with overrun := v }
  | .underrun => { s with underrun := v }
  | .satcnt => { s with satcnt := v }
  | .ie => { s with goIe := v.getLsbD 0 }
  | .cfg0 | .cfg1 | .eqctl | .poolstat | .barstat | .bufstat _ => s

end Sys2Proof.Machine
end

