-- ==== Sys2Proof/Machine/RegMove.lean ====
section
/-! DEFINITION. Register movement and CSR access (spec/40_regmove_csr.md): NOP, LDI, LDIH, MOV, GET, CSRRD,
CSRWR, on every port (R110). -/

namespace Sys2Proof.Machine

open Sys2Proof

/-- R111. -/
def execNop (s : State) : Result := .next (s.okay 0)

/-- R112: `x[rd] <- w32(sext_16(imm16))`. -/
def execLdi (rd : Reg) (imm : Half) (s : State) : Result := .next (s.answer rd (w32 (s16 imm)))

/-- R113: `x[rd] <- imm16 :: x[rd][15:0]`. -/
def execLdih (rd : Reg) (imm : Half) (s : State) : Result :=
  .next (s.answer rd (imm ++ lowHalf (s.opd rd)))

/-- R114. -/
def execMov (rd ra : Reg) (s : State) : Result := .next (s.answer rd (s.opd ra))

/-- R115. -/
def execGet (ra : Reg) (s : State) : Result := .next (s.okay (s.opd ra))

/-- R116: the value is that of before the command's own completion. -/
def execCsrrd (rd : Reg) (csr : Half) (s : State) : Result :=
  match csrAt s.cfg csr.toNat with
  | none => .next (s.reject .csr)
  | some r => .next (s.answer rd (s.csrRead s.issuer r))

/-- R117. -/
def execCsrwr (rs : Reg) (csr : Half) (s : State) : Result :=
  match csrAt s.cfg csr.toNat with
  | none => .next (s.reject .csr)
  | some r =>
    s.evaluate [(.csr, r.writable)] false ((s.csrWrite s.issuer (s.opd rs) r).okay 0)

end Sys2Proof.Machine
end

