-- ==== Sys2Proof/Machine/Dispatch.lean ====
section
/-! DEFINITION. One arm per command of spec/opcode_table.json, each a direct call of its meaning. -/

namespace Sys2Proof.Machine

open Sys2Proof

/-- The evaluation of a command by its issuing port (spec/00_scope.md R12). -/
def exec (i : Instr) (s : State) : Host.Outcome State Fault Refusal :=
  match i with
  -- register movement and CSR access, spec/40_regmove_csr.md
  | .nop => Sys2Proof.Machine.execNop s
  | .ldi rd imm => Sys2Proof.Machine.execLdi rd imm s
  | .ldih rd imm => Sys2Proof.Machine.execLdih rd imm s
  | .mov rd ra => Sys2Proof.Machine.execMov rd ra s
  | .get ra => Sys2Proof.Machine.execGet ra s
  | .csrrd rd csr => Sys2Proof.Machine.execCsrrd rd csr s
  | .csrwr rs csr => Sys2Proof.Machine.execCsrwr rs csr s
  -- fixed-point operations, spec/41_fixedpoint.md
  | .sadd32 rd ra rb => Sys2Proof.Machine.execSadd32 rd ra rb s
  | .ssub32 rd ra rb => Sys2Proof.Machine.execSsub32 rd ra rb s
  | .sadd16 rd ra rb => Sys2Proof.Machine.execSadd16 rd ra rb s
  | .ssub16 rd ra rb => Sys2Proof.Machine.execSsub16 rd ra rb s
  | .sneg32 rd ra => Sys2Proof.Machine.execSneg32 rd ra s
  | .sneg16 rd ra => Sys2Proof.Machine.execSneg16 rd ra s
  | .q15to31 rd ra => Sys2Proof.Machine.execQ15to31 rd ra s
  | .q31to15 rd ra => Sys2Proof.Machine.execQ31to15 rd ra s
  | .mulh rd ra rb => Sys2Proof.Machine.execMulh rd ra rb s
  | .smul31 rd ra rb => Sys2Proof.Machine.execSmul31 rd ra rb s
  | .smul15 rd ra rb => Sys2Proof.Machine.execSmul15 rd ra rb s
  | .mulhs rd ra rb sh => Sys2Proof.Machine.execMulhs rd ra rb sh s
  | .sshl32 rd ra sh => Sys2Proof.Machine.execSshl32 rd ra sh s
  | .asr32 rd ra sh => Sys2Proof.Machine.execAsr32 rd ra sh s
  | .sat16 rd ra => Sys2Proof.Machine.execSat16 rd ra s
  -- buffer pool and sample access, spec/42_bufferpool.md
  | .take rd => Sys2Proof.Machine.execTake rd s
  | .takeb rd => Sys2Proof.Machine.execTakeb rd s
  | .give ra => Sys2Proof.Machine.execGive ra s
  | .ctake rd => Sys2Proof.Machine.execCtake rd s
  | .cgive ra => Sys2Proof.Machine.execCgive ra s
  | .setcnt ra rb => Sys2Proof.Machine.execSetcnt ra rb s
  | .getcnt rd ra => Sys2Proof.Machine.execGetcnt rd ra s
  | .sts rs ra rb => Sys2Proof.Machine.execSts rs ra rb s
  | .lds rd ra rb => Sys2Proof.Machine.execLds rd ra rb s
  | .stf rs ra rb => Sys2Proof.Machine.execStf rs ra rb s
  | .ldf rd ra rb => Sys2Proof.Machine.execLdf rd ra rb s
  | .flush => Sys2Proof.Machine.execFlush s
  -- biquad core, spec/43_biquad.md
  | .coefwr rs k j => Sys2Proof.Machine.execCoefwr rs k j s
  | .coefrd rd k j => Sys2Proof.Machine.execCoefrd rd k j s
  | .commit => Sys2Proof.Machine.execCommit s
  | .eqen e => Sys2Proof.Machine.execEqen e s
  | .bqrun ra c => Sys2Proof.Machine.execBqrun ra c s
  | .strd rd c k j => Sys2Proof.Machine.execStrd rd c k j s
  -- dispatcher, spec/44_dispatch.md
  | .fork ra => Sys2Proof.Machine.execFork ra s
  | .accept rd => Sys2Proof.Machine.execAccept rd s
  | .done => Sys2Proof.Machine.execDone s
  | .join => Sys2Proof.Machine.execJoin s
  | .fence => Sys2Proof.Machine.execFence s

end Sys2Proof.Machine
end

