-- ==== Sys2Proof/Machine/Agents.lean ====
section
/-! DEFINITION. The steps of the seven agents (spec/00_scope.md R12, R14, spec/20_memory.md R71,
spec/43_biquad.md R206) and how a port's agent presents its next command word (R10, R24). An agent that has
no enabled step changes nothing when it is scheduled. -/

namespace Sys2Proof.Machine

open Sys2Proof

/-- The word the port's agent presents: the outstanding one, else the one at `cp` of its list (R24, R25). -/
def PortState.nextWord (ps : PortState) : Option Word :=
  match ps.outstanding with
  | some w => some w
  | none => ps.prog[ps.cp]?

/-- Port `p` with word `w` presented and its command about to be evaluated (R10, R25). -/
def State.present (s : State) (p : Port) (w : Word) : State :=
  { s.setPort p { s.port p with outstanding := some w } with issuer := p }

/-- The evaluation of a word (R12): a reserved encoding is rejected on every port (R99). -/
def runWord (w : Word) (s : State) : Result :=
  match decode w with
  | .ok i => exec i s
  | .error _ => .next (s.reject .reserved)

/-- The step of a port. While its engine runs, its BQRUN stays outstanding and the port is held (R203). -/
def State.portStep (s : State) (p : Port) : Result :=
  if s.engineBusy p then .next s
  else
    match (s.port p).nextWord with
    | none => .next s
    | some w => runWord w (s.present p w)

/-- The cell of a posted entry exists (R61, R62). -/
def Params.entryInRange (c : Params) : Posted → Bool
  | .smp b i _ => Params.smpInRange c b i
  | .coef k j _ => Params.coefInRange c k j

/-- A drain step (R71). -/
def State.drainStep (s : State) (q : CorePort) : Result :=
  match s.wb q with
  | [] => .next s
  | e :: rest =>
    if Params.entryInRange s.cfg e then .next ((s.setWb q rest).commitPosted e) else .fault .noSuchCell

/-- The step of an agent. -/
def State.agentStep (s : State) : Agent → Result
  | .port p => s.portStep p
  | .drain q => s.drainStep q
  | .engine q => s.engineStep q

/-- A list with element `n` replaced, extended with `d` up to it where it is shorter. -/
def putAt {α : Type} (d : α) (l : List α) (n : Nat) (v : α) : List α :=
  match l, n with
  | [], 0 => [v]
  | _ :: t, 0 => v :: t
  | [], n + 1 => d :: putAt d [] n v
  | h :: t, n + 1 => h :: putAt d t n v

/-- A port that may issue the command of word `w` (R252); port A where several may, or none. -/
def issuingPort (w : Word) : Port :=
  match decode w with
  | .ok (.accept _) | .ok .done => .b
  | .ok (.ctake _) | .ok (.cgive _) => .c
  | _ => .a

/-- `s` with `w` as the next word of port `p`, nothing outstanding there and its engine idle, and that port
scheduled next. -/
def State.withNextWord (s : State) (p : Port) (w : Word) : State :=
  let ps := s.port p
  let t := s.setPort p { ps with outstanding := none, prog := putAt 0#32 ps.prog ps.cp w }
  let u := match p.core with
    | none => t
    | some q => t.setEngine q .idle
  { u with sched := .port p :: s.sched }

/-- The command lists of the three agents, an input of the model (R53). -/
def State.withPrograms (s : State) (a b c : List Word) : State :=
  { s with
    portA := { s.portA with prog := a }
    portB := { s.portB with prog := b }
    portC := { s.portC with prog := c } }

end Sys2Proof.Machine
end

