-- ==== Sys2Proof/Machine/Step.lean ====
section
/-! DEFINITION. One step of the unit: the agent the schedule names takes its step (spec/00_scope.md R14). -/

namespace Sys2Proof.Machine

open Sys2Proof

/-- One step. With an exhausted schedule nobody moves; parameters outside R8 are refused (U7). -/
def step (s : State) : Result :=
  if s.cfg.legal then
    match s.sched with
    | [] => .next s
    | g :: rest => ({ s with sched := rest } : State).agentStep g
  else .refused .parametersOutOfRange

/-- `s` with the command whose table word is `w` placed where the next step fetches it: in the command list of
a port that may issue it, that port scheduled next (notes/assumptions/2.md). -/
def State.withFetchWord (s : State) (nbits w : Nat) : State :=
  let v : Word := BitVec.ofNat 32 (w % 2 ^ min nbits 32)
  s.withNextWord (issuingPort v) v

end Sys2Proof.Machine
end

