-- ==== Sys2Proof/Safety.lean ====
section
/-! DEFINITION. The terms claims use: what a step may leave as it was, what a completed command has done to its
port, the invariants of the unit, the end of a run, and weak fairness. -/

namespace Sys2Proof.Machine

open Sys2Proof

/-! ### Frames -/

/-- The shared pieces of state (spec/10_state.md R20). -/
inductive Part where
  | samples
  | coefs
  | filter
  | own
  | cnt
  | freeq
  | outq
  | bar
  | jobBuf
  | goIe
  | eqEn
  | coefDirty
  | locks
  | engines
  | posted
  | overrun
  | underrun
  | satcnt
  | esr
  deriving DecidableEq, Repr

/-- The piece reads in `t` as it read in `s`; memories cell by cell. -/
def Part.kept : Part → State → State → Prop
  | .samples, s, t => ∀ b i, t.smpAt b i = s.smpAt b i
  | .coefs, s, t => ∀ k j, t.coefAt k j = s.coefAt k j
  | .filter, s, t => ∀ c k j, t.stAt c k j = s.stAt c k j
  | .own, s, t => ∀ b, t.ownOf b = s.ownOf b
  | .cnt, s, t => ∀ b, t.cntOf b = s.cntOf b
  | .freeq, s, t => t.freeq = s.freeq
  | .outq, s, t => t.outq = s.outq
  | .bar, s, t => t.bar = s.bar
  | .jobBuf, s, t => t.jobBuf = s.jobBuf
  | .goIe, s, t => t.goIe = s.goIe
  | .eqEn, s, t => t.eqEn = s.eqEn
  | .coefDirty, s, t => t.coefDirty = s.coefDirty
  | .locks, s, t => ∀ c, t.lockOf c = s.lockOf c
  | .engines, s, t => ∀ q, t.engine q = s.engine q
  | .posted, s, t => ∀ q, t.wb q = s.wb q
  | .overrun, s, t => t.overrun = s.overrun
  | .underrun, s, t => t.underrun = s.underrun
  | .satcnt, s, t => t.satcnt = s.satcnt
  | .esr, s, t => t.esr = s.esr

/-- Every shared piece is kept but those listed, and so are the parameters. -/
def SharedKept (changed : List Part) (s t : State) : Prop :=
  (∀ x : Part, x ∉ changed → x.kept s t) ∧ t.cfg = s.cfg

/-- Every port but `p` is kept. -/
def OtherPortsKept (p : Port) (s t : State) : Prop := ∀ p', p' ≠ p → t.port p' = s.port p'

/-- Every shared piece is kept but those listed; so is every port but `p`, the command list of `p`, and the
model's inputs. -/
def Kept (p : Port) (changed : List Part) (s t : State) : Prop :=
  SharedKept changed s t ∧ OtherPortsKept p s t ∧ (t.port p).prog = (s.port p).prog ∧
    t.issuer = s.issuer ∧ t.sched = s.sched

/-- Every register of port `p` is kept. -/
def RegsKept (p : Port) (s t : State) : Prop := ∀ r, t.reg p r = s.reg p r

/-- Every register of port `p` but `rd` is kept. -/
def RegsKeptBut (p : Port) (rd : Reg) (s t : State) : Prop := ∀ r, r ≠ rd → t.reg p r = s.reg p r

/-- The sticky `QF` of port `p` is kept. -/
def QfKept (p : Port) (s t : State) : Prop := (t.port p).status.qf = (s.port p).status.qf

/-- The outstanding command of port `p` has completed with status `c` and `rdata = v` (R10, R24, R25, R26). -/
def Responded (p : Port) (c : Cond) (v : Word) (s t : State) : Prop :=
  (t.port p).status.cond = c ∧ (t.port p).resp = some { cond := c, rdata := v } ∧
    (t.port p).cp = (s.port p).cp + 1 ∧ (t.port p).outstanding = none

/-- From `s` to `t` the outstanding command of port `p` is rejected with sub-cause `c`, and of what belongs to
the port or is shared nothing but STATUS, the response, `cp` and `ESR.INV` changes (R241). -/
def Rejects (p : Port) (c : SubCause) (s t : State) : Prop :=
  Responded p (.invalidParameter c) 0 s t ∧ t.esr.inv = true ∧ t.esr.res = s.esr.res ∧
    t.esr.sat = s.esr.sat ∧ QfKept p s t ∧ RegsKept p s t ∧ SharedKept [.esr] s t ∧ OtherPortsKept p s t ∧
    (t.port p).prog = (s.port p).prog

/-- The command `i` is rejected with sub-cause `c` and has changed nothing else (R241). -/
def Rejected (i : Instr) (s : State) (c : SubCause) : Prop :=
  ∃ t, exec i s = .next t ∧ Rejects s.issuer c s t ∧ t.issuer = s.issuer ∧ t.sched = s.sched

/-- The command `i` completes with status OK and `rdata = v`; it writes no register and changes no shared
piece but those listed. -/
def CompletesWith (i : Instr) (s t : State) (v : Word) (changed : List Part) : Prop :=
  exec i s = .next t ∧ Responded s.issuer .ok v s t ∧ QfKept s.issuer s t ∧ RegsKept s.issuer s t ∧
    Kept s.issuer changed s t

/-- The command `i` completes with status OK and `v` in `x[rd]` and `rdata`; no other register and no shared
piece but those listed changes. -/
def AnswersWith (i : Instr) (s t : State) (rd : Reg) (v : Word) (changed : List Part) : Prop :=
  exec i s = .next t ∧ t.reg s.issuer rd = v ∧ Responded s.issuer .ok v s t ∧ QfKept s.issuer s t ∧
    RegsKeptBut s.issuer rd s t ∧ Kept s.issuer changed s t

/-! ### Invariants -/

/-- The pool invariant (R32, R33): the queues have no repeats and hold exactly the buffers of their ownership
value, nothing beyond the pool is owned, and a buffer is SPLIT exactly when it is `job_buf` of a busy
barrier. -/
structure PoolInv (s : State) : Prop where
  freeNodup : s.freeq.Nodup
  outNodup : s.outq.Nodup
  freeExact : ∀ b, b ∈ s.freeq ↔ b < s.cfg.nbuf ∧ s.ownOf b = .free
  outExact : ∀ b, b ∈ s.outq ↔ s.ownOf b = .queued
  outside : ∀ b, s.cfg.nbuf ≤ b → s.ownOf b = .free
  splitExact : ∀ b, s.ownOf b = .split ↔ s.bar ≠ .idle ∧ s.jobBuf.toNat = b

/-- The engine invariant (R30, R50, R51, R52, R77, R203): counts fit a buffer; a running engine names cells
that exist, holds the lock of its channel, has an empty posted-write buffer and an outstanding BQRUN of its
channel; a lock is held only by an engine running that channel; posted entries name cells that exist and
fit the buffer's depth. -/
structure RunInv (s : State) : Prop where
  counts : ∀ b, s.cntOf b ≤ s.cfg.cap
  runs : ∀ q r, s.engine q = .run r →
    r.b < s.cfg.nbuf ∧ r.i < r.n ∧ r.n ≤ s.cfg.cap ∧ r.k < s.cfg.nband ∧ s.lockOf r.c = some q ∧
      s.wb q = [] ∧ ∃ w ra, (s.port q.port).outstanding = some w ∧ decode w = .ok (.bqrun ra r.c)
  locks : ∀ c q, s.lockOf c = some q → ∃ r, s.engine q = .run r ∧ r.c = c
  entries : ∀ q e, e ∈ s.wb q → Params.entryInRange s.cfg e = true
  depth : ∀ q d, s.cfg.wbDepth = some d → (s.wb q).length ≤ d

/-- Sample memory in canonical form, buffer by buffer and sample by sample (notes/assumptions/6.md). -/
def samplesWf (m : Table (Table Half)) : Bool :=
  Table.wf (fun _ => []) m && m.all (fun e => Table.wf (fun _ => unwrittenSample) e.2)

/-- Every memory is in canonical form. -/
def State.memWf (s : State) : Bool :=
  samplesWf s.smp &&
    Table.wf (fun _ => 0) s.cnt && Table.wf (fun _ => Own.free) s.own &&
    Table.wf (fun _ => Params.identity s.cfg) s.coef && Table.wf (fun _ => Delay.zero) s.st0 &&
    Table.wf (fun _ => Delay.zero) s.st1

/-! ### Runs -/

/-- The port condition (R25): a command has been presented and no response given. -/
def State.isHeld (s : State) (p : Port) : Bool := (s.port p).outstanding.isSome

/-- The end of a run (spec/70_reset_and_hazards.md R284). -/
def State.ended (s : State) : Bool :=
  [Port.a, .b, .c].all (fun p => decide ((s.port p).nextWord = none)) &&
    [CorePort.a, .b].all (fun q => decide (s.wb q = []) && decide (s.engine q = .idle))

/-! ### Weak fairness (spec/00_scope.md R14) -/

/-- The agent has an enabled step (R14): a port whose next command is not held (R12), a drain with something
posted (R71), an engine with a run (R206). -/
def State.enabled (s : State) : Agent → Bool
  | .port p =>
    !s.engineBusy p &&
      match (s.port p).nextWord with
      | none => false
      | some w =>
        match runWord w (s.present p w) with
        | .next t => decide (t ≠ s.present p w)
        | _ => false
  | .drain q => decide (s.wb q ≠ [])
  | .engine q => decide (s.engine q ≠ .idle)

/-- The state after `n` steps of the endless schedule `g`. -/
def State.under (s : State) (g : Nat → Agent) : Nat → State
  | 0 => s
  | n + 1 =>
    match step { State.under s g n with sched := [g n] } with
    | .next t => t
    | _ => State.under s g n

/-- A step that stays enabled is eventually taken (R14). -/
def WeaklyFair (g : Nat → Agent) (s : State) : Prop :=
  ∀ a n, (∀ m, n ≤ m → (s.under g m).enabled a = true) → ∃ m, n ≤ m ∧ g m = a

end Sys2Proof.Machine
end

