-- ==== Sys2Proof/Claims.lean ====
section
/-! DEFINITION. The tables and readings of the spec that the statements compare the machine with, written from
the spec's own tables and not from the meanings. -/

namespace Sys2Proof.Claims

open Sys2Proof Sys2Proof.Machine

/-! ### The opcode map (spec/30_encoding.md R94, R95) -/

/-- The mnemonic of a command (R94). -/
def mnemonicOf : Instr → String
  | .nop => "NOP"
  | .ldi _ _ => "LDI"
  | .ldih _ _ => "LDIH"
  | .mov _ _ => "MOV"
  | .get _ => "GET"
  | .csrrd _ _ => "CSRRD"
  | .csrwr _ _ => "CSRWR"
  | .sadd32 _ _ _ => "SADD32"
  | .ssub32 _ _ _ => "SSUB32"
  | .sadd16 _ _ _ => "SADD16"
  | .ssub16 _ _ _ => "SSUB16"
  | .sneg32 _ _ => "SNEG32"
  | .sneg16 _ _ => "SNEG16"
  | .q15to31 _ _ => "Q15TO31"
  | .q31to15 _ _ => "Q31TO15"
  | .mulh _ _ _ => "MULH"
  | .smul31 _ _ _ => "SMUL31"
  | .smul15 _ _ _ => "SMUL15"
  | .mulhs _ _ _ _ => "MULHS"
  | .sshl32 _ _ _ => "SSHL32"
  | .asr32 _ _ _ => "ASR32"
  | .sat16 _ _ => "SAT16"
  | .take _ => "TAKE"
  | .takeb _ => "TAKEB"
  | .give _ => "GIVE"
  | .ctake _ => "CTAKE"
  | .cgive _ => "CGIVE"
  | .setcnt _ _ => "SETCNT"
  | .getcnt _ _ => "GETCNT"
  | .sts _ _ _ => "STS"
  | .lds _ _ _ => "LDS"
  | .stf _ _ _ => "STF"
  | .ldf _ _ _ => "LDF"
  | .flush => "FLUSH"
  | .coefwr _ _ _ => "COEFWR"
  | .coefrd _ _ _ => "COEFRD"
  | .commit => "COMMIT"
  | .eqen _ => "EQEN"
  | .bqrun _ _ => "BQRUN"
  | .strd _ _ _ _ => "STRD"
  | .fork _ => "FORK"
  | .accept _ => "ACCEPT"
  | .done => "DONE"
  | .join => "JOIN"
  | .fence => "FENCE"

/-- A row of the opcode map: mnemonic, match, mask (R94, R95). -/
structure OpcodeRow where
  name : String
  pattern : Word
  mask : Word

/-- The 45 rows of R94, the masks by shape of R95. -/
def opcodeRows : List OpcodeRow :=
  [⟨"NOP", 0x00000000#32, 0xFFFFFFFF#32⟩,
   ⟨"LDI", 0x01000000#32, 0xFF0F0000#32⟩,
   ⟨"LDIH", 0x02000000#32, 0xFF0F0000#32⟩,
   ⟨"MOV", 0x03000000#32, 0xFF00FFFF#32⟩,
   ⟨"GET", 0x04000000#32, 0xFFF0FFFF#32⟩,
   ⟨"CSRRD", 0x08000000#32, 0xFF0F0000#32⟩,
   ⟨"CSRWR", 0x09000000#32, 0xFF0F0000#32⟩,
   ⟨"SADD32", 0x10000000#32, 0xFF000FFF#32⟩,
   ⟨"SSUB32", 0x11000000#32, 0xFF000FFF#32⟩,
   ⟨"SADD16", 0x12000000#32, 0xFF000FFF#32⟩,
   ⟨"SSUB16", 0x13000000#32, 0xFF000FFF#32⟩,
   ⟨"SNEG32", 0x14000000#32, 0xFF00FFFF#32⟩,
   ⟨"SNEG16", 0x15000000#32, 0xFF00FFFF#32⟩,
   ⟨"Q15TO31", 0x16000000#32, 0xFF00FFFF#32⟩,
   ⟨"Q31TO15", 0x17000000#32, 0xFF00FFFF#32⟩,
   ⟨"MULH", 0x18000000#32, 0xFF000FFF#32⟩,
   ⟨"SMUL31", 0x19000000#32, 0xFF000FFF#32⟩,
   ⟨"SMUL15", 0x1A000000#32, 0xFF000FFF#32⟩,
   ⟨"MULHS", 0x1B000000#32, 0xFF000FE0#32⟩,
   ⟨"SSHL32", 0x1C000000#32, 0xFF00FFE0#32⟩,
   ⟨"ASR32", 0x1D000000#32, 0xFF00FFE0#32⟩,
   ⟨"SAT16", 0x1E000000#32, 0xFF00FFFF#32⟩,
   ⟨"TAKE", 0x20000000#32, 0xFF0FFFFF#32⟩] ++
  [⟨"TAKEB", 0x21000000#32, 0xFF0FFFFF#32⟩,
   ⟨"GIVE", 0x22000000#32, 0xFFF0FFFF#32⟩,
   ⟨"CTAKE", 0x23000000#32, 0xFF0FFFFF#32⟩,
   ⟨"CGIVE", 0x24000000#32, 0xFFF0FFFF#32⟩,
   ⟨"SETCNT", 0x25000000#32, 0xFFF00FFF#32⟩,
   ⟨"GETCNT", 0x26000000#32, 0xFF00FFFF#32⟩,
   ⟨"STS", 0x28000000#32, 0xFF000FFF#32⟩,
   ⟨"LDS", 0x29000000#32, 0xFF000FFF#32⟩,
   ⟨"STF", 0x2A000000#32, 0xFF000FFF#32⟩,
   ⟨"LDF", 0x2B000000#32, 0xFF000FFF#32⟩,
   ⟨"FLUSH", 0x2C000000#32, 0xFFFFFFFF#32⟩,
   ⟨"COEFWR", 0x30000000#32, 0xFF0FF000#32⟩,
   ⟨"COEFRD", 0x31000000#32, 0xFF0FF000#32⟩,
   ⟨"COMMIT", 0x32000000#32, 0xFFFFFFFF#32⟩,
   ⟨"EQEN", 0x33000000#32, 0xFFFFFFFE#32⟩,
   ⟨"BQRUN", 0x34000000#32, 0xFFF0FFFE#32⟩,
   ⟨"STRD", 0x35000000#32, 0xFF0F0000#32⟩,
   ⟨"FORK", 0x40000000#32, 0xFFF0FFFF#32⟩,
   ⟨"ACCEPT", 0x41000000#32, 0xFF0FFFFF#32⟩,
   ⟨"DONE", 0x42000000#32, 0xFFFFFFFF#32⟩,
   ⟨"JOIN", 0x43000000#32, 0xFFFFFFFF#32⟩,
   ⟨"FENCE", 0x44000000#32, 0xFFFFFFFF#32⟩]

/-! ### Rights and validation (spec/60_exceptions.md R241, R246, R252) -/

/-- The rights table of R252. -/
def allowed : Instr → Port → Bool
  | .take _, p | .takeb _, p | .give _, p | .setcnt _ _, p | .flush, p => p = .a
  | .ctake _, p | .cgive _, p => p = .c
  | .sts _ _ _, p | .stf _ _ _, p => p ≠ .c
  | .coefwr _ _ _, p | .coefrd _ _ _, p | .commit, p | .eqen _, p | .bqrun _ _, p => p ≠ .c
  | .fork _, p | .join, p => p = .a
  | .accept _, p | .done, p => p = .b
  | _, _ => true

/-- A register of the issuing port as an unsigned number (R93). -/
def idx (s : State) (r : Reg) : Nat := (s.reg s.issuer r).toNat

/-- The implemented CSR numbers (spec/10_state.md R40). -/
def csrImplemented (c : Params) (n : Nat) : Prop := n ≤ 0x000A ∨ (0x0100 ≤ n ∧ n < 0x0100 + c.nbuf)

/-- The writable CSR numbers (R40, R49). -/
def csrWritable (n : Nat) : Prop := n ∈ [0x0002, 0x0003, 0x0006, 0x0007, 0x0008, 0x000A]

/-- The range check of a command (R241; for CSR commands, the number: R246 (3)). -/
def rangeOk (s : State) : Instr → Prop
  | .give ra | .cgive ra | .getcnt _ ra | .bqrun ra _ | .fork ra => idx s ra < s.cfg.nbuf
  | .setcnt ra rb => idx s ra < s.cfg.nbuf ∧ idx s rb ≤ s.cfg.cap
  | .sts _ ra rb | .lds _ ra rb => idx s ra < s.cfg.nbuf ∧ idx s rb < 2 * s.cfg.cap
  | .stf _ ra rb | .ldf _ ra rb => idx s ra < s.cfg.nbuf ∧ idx s rb < s.cfg.cap
  | .coefwr _ k j | .coefrd _ k j => k < s.cfg.nband ∧ j < 5
  | .strd _ c k j => c < 2 ∧ k < s.cfg.nband ∧ j < 4
  | .csrrd _ n => csrImplemented s.cfg n.toNat
  | .csrwr _ n => csrWritable n.toNat
  | _ => True

/-- What a failed range check reports (R246 (3)). -/
def rangeCause : Instr → SubCause
  | .csrrd _ _ | .csrwr _ _ => .csr
  | _ => .range

/-- The table of spec/20_memory.md R66: writing samples and running the filter. -/
def writeRight (s : State) : Port → Nat → Prop
  | .a, b => s.ownOf b = .prod ∨ s.ownOf b = .split
  | .b, b => s.ownOf b = .split ∧ s.bar = .bActive ∧ s.jobBuf.toNat = b
  | .c, _ => False

/-- The table of spec/20_memory.md R66: reading samples. -/
def readRight (s : State) : Port → Nat → Prop
  | .a, b => s.ownOf b = .prod ∨ s.ownOf b = .split
  | .b, b => s.ownOf b = .split ∧ s.bar = .bActive ∧ s.jobBuf.toNat = b
  | .c, b => s.ownOf b = .cons

/-- The ownership check of a command (R241). -/
def ownerOk (s : State) : Instr → Prop
  | .give ra | .fork ra => s.ownOf (idx s ra) = .prod
  | .cgive ra => s.ownOf (idx s ra) = .cons
  | .setcnt ra _ => s.ownOf (idx s ra) = .prod ∨ s.ownOf (idx s ra) = .split
  | .sts _ ra _ | .stf _ ra _ | .bqrun ra _ => writeRight s s.issuer (idx s ra)
  | .lds _ ra _ | .ldf _ ra _ => readRight s s.issuer (idx s ra)
  | _ => True

/-- The protocol check of a command (R241, spec/44_dispatch.md R231, spec/42_bufferpool.md R179). -/
def protocolOk (s : State) : Instr → Prop
  | .fork _ => s.bar = .idle
  | .accept _ => s.bar ≠ .bActive
  | .done => s.bar = .bActive
  | .join => s.bar ≠ .idle
  | .flush => s.engine .b = .idle
  | _ => True

/-- The posted writes of a port; port C has none (spec/10_state.md R50). -/
def posted (s : State) : Port → List Posted
  | .a => s.wb .a
  | .b => s.wb .b
  | .c => []

/-- The hold condition of a posted command of `m` entries (spec/20_memory.md R70). -/
def postWaits (s : State) (m : Nat) : Prop :=
  ∃ d, s.cfg.wbDepth = some d ∧
    ((m ≤ d ∧ d < (posted s s.issuer).length + m) ∨ (d < m ∧ posted s s.issuer ≠ []))

/-- The hold condition of a command (spec/00_scope.md R12 names the thirteen commands that have one). -/
def waits (s : State) : Instr → Prop
  | .takeb _ => s.freeq = []
  | .accept _ => s.bar = .idle ∨ s.bar = .donePending
  | .join => s.bar = .goPending ∨ s.bar = .bActive
  | .fence | .give _ | .fork _ | .done | .commit => posted s s.issuer ≠ []
  | .flush => s.wb .a ≠ [] ∨ s.wb .b ≠ []
  | .bqrun _ c => posted s s.issuer ≠ [] ∨ s.coefDirty = true ∨ s.lockOf c ≠ none
  | .sts _ _ _ | .coefwr _ _ _ => postWaits s 1
  | .stf _ _ _ => postWaits s 2
  | _ => False

/-- The command passes every check of R246. -/
def valid (s : State) (i : Instr) : Prop :=
  allowed i s.issuer = true ∧ rangeOk s i ∧ ownerOk s i ∧ protocolOk s i

/-! ### Arithmetic (spec/41_fixedpoint.md) -/

/-- A register of the issuing port as a signed word. -/
def word (s : State) (r : Reg) : Int := (s.reg s.issuer r).toInt

/-- Bits 15:0 of a register of the issuing port as a signed half. -/
def half (s : State) (r : Reg) : Int := ((s.reg s.issuer r).extractLsb' 0 16).toInt

/-- The destination and the exact result of the commands that saturate to 32 bits (R136, R137, R140, R145,
R147, R148). -/
def wordResult (s : State) : Instr → Option (Reg × Int)
  | .sadd32 rd ra rb => some (rd, word s ra + word s rb)
  | .ssub32 rd ra rb => some (rd, word s ra - word s rb)
  | .sneg32 rd ra => some (rd, -word s ra)
  | .smul31 rd ra rb => some (rd, (word s ra * word s rb).fdiv 2147483648)
  | .mulhs rd ra rb sh => some (rd, (word s ra * word s rb).fdiv 4294967296 * 2 ^ sh)
  | .sshl32 rd ra sh => some (rd, word s ra * 2 ^ sh)
  | _ => none

/-- The destination and the exact result of the commands that saturate to 16 bits (R138, R139, R141, R146,
R150). -/
def halfResult (s : State) : Instr → Option (Reg × Int)
  | .sadd16 rd ra rb => some (rd, half s ra + half s rb)
  | .ssub16 rd ra rb => some (rd, half s ra - half s rb)
  | .sneg16 rd ra => some (rd, -half s ra)
  | .smul15 rd ra rb => some (rd, (half s ra * half s rb).fdiv 32768)
  | .sat16 rd ra => some (rd, word s ra)
  | _ => none

/-- The destination and the result, bit by bit, of the commands that never clamp (R142, R143, R144, R149). -/
def exactResult (s : State) : Instr → Option (Reg × Word)
  | .mulh rd ra rb =>
    some (rd, (((s.reg s.issuer ra).signExtend 64) * ((s.reg s.issuer rb).signExtend 64)).extractLsb' 32 32)
  | .q15to31 rd ra => some (rd, (s.reg s.issuer ra).extractLsb' 0 16 ++ 0#16)
  | .q31to15 rd ra => some (rd, ((s.reg s.issuer ra).extractLsb' 16 16).signExtend 32)
  | .asr32 rd ra sh => some (rd, (s.reg s.issuer ra).sshiftRight sh)
  | _ => none

/-- What a saturating command with exact result `n`, bounds `lo` and `hi` and extremes `loWord` and `hiWord`
leaves in `rd`, the status, `QF` and `ESR.SAT` (R130, R243). -/
def Saturates (lo hi : Int) (loWord hiWord : Word) (rd : Reg) (n : Int) (s t : State) : Prop :=
  (lo ≤ n → n ≤ hi →
    (t.reg s.issuer rd).toInt = n ∧ Responded s.issuer .ok (t.reg s.issuer rd) s t ∧
      QfKept s.issuer s t ∧ t.esr.sat = s.esr.sat) ∧
  (hi < n →
    t.reg s.issuer rd = hiWord ∧ Responded s.issuer .overflowSaturated hiWord s t ∧
      (t.port s.issuer).status.qf = true ∧ t.esr.sat = true) ∧
  (n < lo →
    t.reg s.issuer rd = loWord ∧ Responded s.issuer .overflowSaturated loWord s t ∧
      (t.port s.issuer).status.qf = true ∧ t.esr.sat = true)

/-- Commands of one port one after the other, each completing. -/
def execAll : List Instr → State → Option State
  | [], s => some s
  | i :: rest, s =>
    match exec i s with
    | .next t => execAll rest t
    | _ => none

/-! ### Views (spec/10_state.md R40 to R48) -/

/-- How many buffers of the pool have one of two ownership values. -/
def owned (s : State) (o o' : Own) : Nat :=
  ((Finset.range s.cfg.nbuf).filter (fun b => s.ownOf b = o ∨ s.ownOf b = o')).card

/-- The fields of the word that CSR `n` shows to port `p`; a count wider than its field shows its low bits. -/
def csrShows (s : State) (p : Port) (n : Nat) (v : Word) : Prop :=
  (n = 0x0000 → bitField v 7 0 = s.cfg.nbuf % 256 ∧ bitField v 15 8 = s.cfg.nband % 256 ∧
    bitField v 20 16 = s.cfg.coefFrac % 32 ∧ (bitField v 21 21 = 1 ↔ s.cfg.accMode = .stepwise) ∧
    bitField v 31 22 = 0) ∧
  (n = 0x0001 → bitField v 15 0 = s.cfg.cap % 65536 ∧ bitField v 31 16 = 0) ∧
  (n = 0x0002 → bitField v 3 0 = (s.port p).status.cond.code.toNat ∧
    bitField v 7 4 = (s.port p).status.cond.sub.toNat ∧
    (bitField v 8 8 = 1 ↔ (s.port p).status.qf = true) ∧ bitField v 31 9 = 0) ∧
  (n = 0x0003 → (bitField v 0 0 = 1 ↔ s.esr.res = true) ∧ (bitField v 1 1 = 1 ↔ s.esr.inv = true) ∧
    (bitField v 2 2 = 1 ↔ s.esr.sat = true) ∧ bitField v 31 3 = 0) ∧
  (n = 0x0004 → (bitField v 0 0 = 1 ↔ s.eqEn = true) ∧ (bitField v 1 1 = 1 ↔ s.coefDirty = true) ∧
    (bitField v 2 2 = 1 ↔ s.engine .a ≠ .idle) ∧ (bitField v 3 3 = 1 ↔ s.engine .b ≠ .idle) ∧
    (bitField v 5 4 = 0 ↔ s.lockOf 0 = none) ∧ (bitField v 5 4 = 1 ↔ s.lockOf 0 = some .a) ∧
    (bitField v 5 4 = 2 ↔ s.lockOf 0 = some .b) ∧ (bitField v 7 6 = 0 ↔ s.lockOf 1 = none) ∧
    (bitField v 7 6 = 1 ↔ s.lockOf 1 = some .a) ∧ (bitField v 7 6 = 2 ↔ s.lockOf 1 = some .b) ∧
    bitField v 31 8 = 0) ∧
  (n = 0x0005 → bitField v 7 0 = s.freeq.length % 256 ∧ bitField v 15 8 = s.outq.length % 256 ∧
    bitField v 23 16 = owned s .prod .split % 256 ∧ bitField v 31 24 = owned s .cons .cons % 256) ∧
  (n = 0x0006 → v = s.overrun) ∧ (n = 0x0007 → v = s.underrun) ∧ (n = 0x0008 → v = s.satcnt) ∧
  (n = 0x0009 → (bitField v 1 0 = 0 ↔ s.bar = .idle) ∧ (bitField v 1 0 = 1 ↔ s.bar = .goPending) ∧
    (bitField v 1 0 = 2 ↔ s.bar = .bActive) ∧ (bitField v 1 0 = 3 ↔ s.bar = .donePending) ∧
    bitField v 7 2 = 0 ∧ bitField v 15 8 = s.jobBuf.toNat ∧
    (bitField v 16 16 = 1 ↔ s.bar = .goPending ∧ s.goIe = true) ∧ bitField v 31 17 = 0) ∧
  (n = 0x000A → (bitField v 0 0 = 1 ↔ s.goIe = true) ∧ bitField v 31 1 = 0) ∧
  (∀ b, n = 0x0100 + b →
    (bitField v 2 0 = 0 ↔ s.ownOf b = .free) ∧ (bitField v 2 0 = 1 ↔ s.ownOf b = .prod) ∧
    (bitField v 2 0 = 2 ↔ s.ownOf b = .split) ∧ (bitField v 2 0 = 3 ↔ s.ownOf b = .queued) ∧
    (bitField v 2 0 = 4 ↔ s.ownOf b = .cons) ∧ bitField v 15 3 = 0 ∧
    bitField v 31 16 = s.cntOf b % 65536)

/-- The shared pieces a write of CSR `n` may change (R117). -/
def csrParts (n : Nat) : List Part :=
  if n = 0x0003 then [.esr]
  else if n = 0x0006 then [.overrun]
  else if n = 0x0007 then [.underrun]
  else if n = 0x0008 then [.satcnt]
  else if n = 0x000A then [.goIe]
  else []

/-! ### What a read sees (spec/20_memory.md R73) -/

/-- The half that a read of `SMP[b][i]` by port `p` returns: the youngest entry of the port's own buffer for
that cell, else memory. -/
def SeesSample (s : State) (p : Port) (b i : Nat) (v : Half) : Prop :=
  (∃ older younger, posted s p = older ++ [Posted.smp b i v] ++ younger ∧
    ∀ v', Posted.smp b i v' ∉ younger) ∨
  ((∀ v', Posted.smp b i v' ∉ posted s p) ∧ v = s.smpAt b i)

/-- The word that a read of `COEF[k][j]` by port `p` returns. -/
def SeesCoef (s : State) (p : Port) (k j : Nat) (v : Word) : Prop :=
  (∃ older younger, posted s p = older ++ [Posted.coef k j v] ++ younger ∧
    ∀ v', Posted.coef k j v' ∉ younger) ∨
  ((∀ v', Posted.coef k j v' ∉ posted s p) ∧ v = s.coefAt k j)

/-! ### Stores (spec/42_bufferpool.md R170, R172) -/

/-- The writes of a store command, in order: the buffer, the sample index, the half. -/
def storedHalves (s : State) : Instr → List (Nat × Nat × Half)
  | .sts rs ra rb => [(idx s ra, idx s rb, (s.reg s.issuer rs).extractLsb' 0 16)]
  | .stf rs ra rb =>
    [(idx s ra, 2 * idx s rb, (s.reg s.issuer rs).extractLsb' 0 16),
      (idx s ra, 2 * idx s rb + 1, (s.reg s.issuer rs).extractLsb' 16 16)]
  | _ => []

/-- STS or STF. -/
def isStore : Instr → Prop
  | .sts _ _ _ | .stf _ _ _ => True
  | _ => False

/-- The buffer of a core port can hold `m` more entries now (R70). -/
def roomFor (s : State) (q : CorePort) (m : Nat) : Prop :=
  ∀ d, s.cfg.wbDepth = some d → (s.wb q).length + m ≤ d

/-! ### The stage (spec/43_biquad.md R191, R193) -/

/-- The five exact terms of a stage. -/
def terms (c : Coefs) (d : Delay) (x : Word) : List Int :=
  [(c.b0.toInt * x.toInt).fdiv 4294967296, (c.b1.toInt * d.x1.toInt).fdiv 4294967296,
    (c.b2.toInt * d.x2.toInt).fdiv 4294967296, (c.a1.toInt * d.y1.toInt).fdiv 4294967296,
    (c.a2.toInt * d.y2.toInt).fdiv 4294967296]

/-- A number of the Q31 range. -/
def isQ31 (n : Int) : Prop := -2147483648 ≤ n ∧ n ≤ 2147483647

/-- The word a running engine's next stage step takes in (R206). -/
def stageIn (s : State) (r : Run) : Word :=
  if r.k = 0 then s.smpAt r.b (2 * r.i + r.c.val) ++ 0#16 else r.v

/-- What the stage gives for it (R206). -/
def stageNow (s : State) (r : Run) : StageOut :=
  stage s.cfg (s.coefsAt r.k) (s.delayAt r.c r.k) (stageIn s r)

/-- The cells a run names exist (R51). -/
def runOk (s : State) (r : Run) : Prop :=
  r.b < s.cfg.nbuf ∧ 2 * r.i + r.c.val < 2 * s.cfg.cap ∧ r.k < s.cfg.nband

/-- What a stage step does besides the engine record and the sample: the delay line of its band, and the
record of a clamp (R206). -/
def StageStepEffects (s t : State) (r : Run) : Prop :=
  t.delayAt r.c r.k = (stageNow s r).delay ∧
  (∀ c k, (c, k) ≠ (r.c, r.k) → t.delayAt c k = s.delayAt c k) ∧
  t.esr.res = s.esr.res ∧ t.esr.inv = s.esr.inv ∧
  (t.esr.sat = true ↔ s.esr.sat = true ∨ (stageNow s r).clamped = true) ∧
  t.satcnt.toNat =
    min (s.satcnt.toNat + if (stageNow s r).clamped = true then 1 else 0) 0xFFFFFFFF

/-! ### Moves (spec/10_state.md R31, spec/44_dispatch.md R220) -/

/-- The ownership transitions of R31 and the command of each. -/
def ownMove : Instr → Own → Own → Prop
  | .take _, o, o' | .takeb _, o, o' => o = .free ∧ o' = .prod
  | .fork _, o, o' => o = .prod ∧ o' = .split
  | .join, o, o' => o = .split ∧ o' = .prod
  | .give _, o, o' => o = .prod ∧ o' = .queued
  | .ctake _, o, o' => o = .queued ∧ o' = .cons
  | .cgive _, o, o' => o = .cons ∧ o' = .free
  | .flush, _, o' => o' = .free
  | _, _, _ => False

/-- The barrier moves of R220 and the command of each. -/
def barMove : Instr → BarState → BarState → Prop
  | .fork _, o, o' => o = .idle ∧ o' = .goPending
  | .accept _, o, o' => o = .goPending ∧ o' = .bActive
  | .done, o, o' => o = .bActive ∧ o' = .donePending
  | .join, o, o' => o = .donePending ∧ o' = .idle
  | .flush, _, o' => o' = .idle
  | _, _, _ => False

/-- The step from `s` evaluates the command `i` of port `p`. -/
def stepRuns (s : State) (p : Port) (i : Instr) : Prop :=
  ∃ rest w, s.sched = .port p :: rest ∧ (s.port p).nextWord = some w ∧ decode w = .ok i

end Sys2Proof.Claims
end

