-- ==== Sys2Proof/Certificates/Slice0/Obligations.lean ====
section
/-! DEFINITION. The statements about FXAU, for the provers. Every one holds for every instance: the
parameters are a field of the state, and a statement that needs them in the ranges of R8 says so. -/

open Sys2Proof Sys2Proof.Machine Sys2Proof.Claims

/-! ### Encoding (spec/30_encoding.md) -/

/-- R90, R92, R94, R96: decoding the word of a well-formed command gives the command back. -/
def Obligations.DecodeOfEncodeIsTheCommand : Prop :=
  ∀ i : Instr, i.wellFormed = true → decode (encode i) = .ok i

/-- R94, R95, R96: a word that decodes is the word of its command and of no other. -/
def Obligations.EncodeOfDecodeIsTheWord : Prop :=
  ∀ (w : Word) (i : Instr), decode w = .ok i → i.wellFormed = true ∧ encode i = w

/-- R94, R95, R96: with the matches of R94 and the masks of R95, a word is the command of a row exactly when it
matches the row under its mask, and no word matches two rows. -/
def Obligations.MatchAndMaskTellTheCommand : Prop :=
  ∀ (w : Word) (row : OpcodeRow), row ∈ opcodeRows →
    ((w &&& row.mask = row.pattern ↔ ∃ i, decode w = .ok i ∧ mnemonicOf i = row.name) ∧
      (w &&& row.mask = row.pattern → ∀ row', row' ∈ opcodeRows → w &&& row'.mask = row'.pattern →
        row'.name = row.name))

/-- R97: the worked encodings. -/
def Obligations.WorkedWordsDecode : Prop :=
  decode 0x00000000#32 = .ok .nop ∧ decode 0x0110FFFF#32 = .ok (.ldi 1 0xFFFF#16) ∧
  decode 0x02107FFF#32 = .ok (.ldih 1 0x7FFF#16) ∧ decode 0x10312000#32 = .ok (.sadd32 3 1 2) ∧
  decode 0x1B412004#32 = .ok (.mulhs 4 1 2 4) ∧ decode 0x28705000#32 = .ok (.sts 7 0 5) ∧
  decode 0x30500032#32 = .ok (.coefwr 5 3 2) ∧ decode 0x34020001#32 = .ok (.bqrun 2 1) ∧
  decode 0x35601073#32 = .ok (.strd 6 1 7 3) ∧ decode 0x08900102#32 = .ok (.csrrd 9 0x0102#16) ∧
  decode 0x40000000#32 = .ok (.fork 0) ∧ decode 0x43000000#32 = .ok .join

/-! ### Steps (spec/00_scope.md R10 to R14, spec/20_memory.md R71, spec/43_biquad.md R206) -/

/-- R10, R12, R203, R208: what a scheduled step of port `p` is. While the engine of `p` runs the port is held,
and nothing but the schedule changes (R203, R208; notes/assumptions/15.md). While it is idle and the next word
decodes to `i`, the step is `exec i` at the state in which the schedule has moved on, `p` is the issuing port and
the word is outstanding there; nothing else differs from `s`. That presenting a word and first evaluating it are
one step, and that the state carries the issuing port, are the model's (notes/assumptions/8.md, 11.md). -/
def Obligations.AStepOfAPortRunsItsCommand : Prop :=
  ∀ (s : State) (p : Port) (rest : List Agent), s.cfg.legal = true → s.sched = .port p :: rest →
    (s.engineBusy p = true → step s = .next { s with sched := rest }) ∧
    (∀ (w : Word) (i : Instr), s.engineBusy p = false → (s.port p).nextWord = some w → decode w = .ok i →
      ∃ u, step s = exec i u ∧ u.issuer = p ∧ u.sched = rest ∧ SharedKept [] s u ∧ OtherPortsKept p s u ∧
        u.port p = { s.port p with outstanding := some w })

/-- R99: a word that matches no row is rejected with RESERVED on every port, changes nothing else, and the
port goes on. -/
def Obligations.ReservedWordsAreRejected : Prop :=
  ∀ (s : State) (p : Port) (rest : List Agent) (w : Word),
    s.cfg.legal = true → s.sched = .port p :: rest → s.engineBusy p = false →
    (s.port p).nextWord = some w → (∀ row, row ∈ opcodeRows → w &&& row.mask ≠ row.pattern) →
    ∃ t, step s = .next t ∧ Rejects p .reserved s t ∧ t.sched = rest ∧
      (t.port p).status.cond.code = 2 ∧ (t.port p).status.cond.sub = 1

/-- R71: a drain step removes the oldest entry and writes its cell, and nothing else. The entry's cell exists, as
every posted entry's does (notes/assumptions/7.md). -/
def Obligations.DrainStepWritesTheOldestEntry : Prop :=
  ∀ (s : State) (q : CorePort) (rest : List Agent) (e : Posted) (tail : List Posted),
    s.cfg.legal = true → s.sched = .drain q :: rest → s.wb q = e :: tail →
    Params.entryInRange s.cfg e = true →
    ∃ t, step s = .next t ∧ t.wb q = tail ∧ (∀ q', q' ≠ q → t.wb q' = s.wb q') ∧
      (∀ b i v, e = .smp b i v → t.smpAt b i = v) ∧
      (∀ b i, (∀ v, e ≠ .smp b i v) → t.smpAt b i = s.smpAt b i) ∧
      (∀ k j v, e = .coef k j v → t.coefAt k j = v) ∧
      (∀ k j, (∀ v, e ≠ .coef k j v) → t.coefAt k j = s.coefAt k j) ∧
      SharedKept [.samples, .coefs, .posted] s t ∧ (∀ p, t.port p = s.port p) ∧ t.sched = rest

/-- R206: a stage step that does not end the run. -/
def Obligations.StageStepAdvancesTheRun : Prop :=
  ∀ (s : State) (q : CorePort) (rest : List Agent) (r : Run),
    s.cfg.legal = true → s.sched = .engine q :: rest → s.engine q = .run r → runOk s r →
    (r.k + 1 < s.cfg.nband ∨ r.i + 1 < r.n) →
    ∃ t, step s = .next t ∧ StageStepEffects s t r ∧
      (r.k + 1 < s.cfg.nband →
        t.engine q = .run { r with
          k := r.k + 1, v := (stageNow s r).y, sat := r.sat || (stageNow s r).clamped } ∧
        ∀ b i, t.smpAt b i = s.smpAt b i) ∧
      (s.cfg.nband ≤ r.k + 1 →
        t.engine q = .run { r with
          i := r.i + 1, k := 0, v := 0, sat := r.sat || (stageNow s r).clamped } ∧
        t.smpAt r.b (2 * r.i + r.c.val) = (stageNow s r).y.extractLsb' 16 16 ∧
        ∀ b i, (b, i) ≠ (r.b, 2 * r.i + r.c.val) → t.smpAt b i = s.smpAt b i) ∧
      (∀ q', q' ≠ q → t.engine q' = s.engine q') ∧
      SharedKept [.samples, .filter, .engines, .satcnt, .esr] s t ∧ (∀ p, t.port p = s.port p) ∧
      t.sched = rest

/-- R208: the last stage step of a run also releases the lock and the engine and completes the BQRUN, with
status OverflowSaturated and `QF` if any stage of the run clamped. `ESR.SAT` is as the stage step leaves
it (notes/assumptions/10.md). -/
def Obligations.LastStageStepFinishesTheRun : Prop :=
  ∀ (s : State) (q : CorePort) (rest : List Agent) (r : Run),
    s.cfg.legal = true → s.sched = .engine q :: rest → s.engine q = .run r → runOk s r →
    s.cfg.nband ≤ r.k + 1 → r.n ≤ r.i + 1 →
    ∃ t, step s = .next t ∧ StageStepEffects s t r ∧
      t.engine q = .idle ∧ (∀ q', q' ≠ q → t.engine q' = s.engine q') ∧
      t.lockOf r.c = none ∧ (∀ c, c ≠ r.c → t.lockOf c = s.lockOf c) ∧
      t.smpAt r.b (2 * r.i + r.c.val) = (stageNow s r).y.extractLsb' 16 16 ∧
      (∀ b i, (b, i) ≠ (r.b, 2 * r.i + r.c.val) → t.smpAt b i = s.smpAt b i) ∧
      ((r.sat || (stageNow s r).clamped) = true →
        Responded q.port .overflowSaturated 0 s t ∧ (t.port q.port).status.qf = true) ∧
      ((r.sat || (stageNow s r).clamped) = false →
        Responded q.port .ok 0 s t ∧ QfKept q.port s t) ∧
      RegsKept q.port s t ∧ OtherPortsKept q.port s t ∧
      SharedKept [.samples, .filter, .engines, .locks, .satcnt, .esr] s t ∧ t.sched = rest

/-- R206: left to itself, a run of `n` frames takes exactly `n * NBAND` stage steps. -/
def Obligations.RunTakesExactlyItsStageSteps : Prop :=
  ∀ (s : State) (q : CorePort) (r : Run) (m : Nat),
    s.cfg.legal = true → s.engine q = .run r → r.i = 0 → r.k = 0 → 1 ≤ r.n → r.b < s.cfg.nbuf →
    r.n ≤ s.cfg.cap → m ≤ r.n * s.cfg.nband → s.sched = List.replicate m (.engine q) →
    ∃ t, Host.Core.run Sys2Proof.core m s = .next t ∧ (t.engine q = .idle ↔ m = r.n * s.cfg.nband)

/-! ### The stage function (spec/43_biquad.md R191 to R196, R212) -/

/-- R191, R193, R194: the WIDE stage sums the five exact terms, shifts once and clamps once, every sign a
plus, and the delay line takes the input and the saturated output. -/
def Obligations.WideStageClampsTheExactSum : Prop :=
  ∀ (cfg : Params) (c : Coefs) (d : Delay) (x : Word), cfg.accMode = .wide →
    (stage cfg c d x).delay = { x1 := x, x2 := d.x1, y1 := (stage cfg c d x).y, y2 := d.y1 } ∧
    (isQ31 ((terms c d x).sum * 2 ^ cfg.postShift) →
      (stage cfg c d x).y.toInt = (terms c d x).sum * 2 ^ cfg.postShift ∧
        (stage cfg c d x).clamped = false) ∧
    (2147483647 < (terms c d x).sum * 2 ^ cfg.postShift →
      (stage cfg c d x).y = 0x7FFFFFFF#32 ∧ (stage cfg c d x).clamped = true) ∧
    ((terms c d x).sum * 2 ^ cfg.postShift < -2147483648 →
      (stage cfg c d x).y = 0x80000000#32 ∧ (stage cfg c d x).clamped = true)

/-- R193: the two modes give the same output, unclamped, whenever no shifted term and no partial sum leaves the
Q31 range. -/
def Obligations.ModesAgreeWhenNothingLeavesTheRange : Prop :=
  ∀ (cfg : Params) (c : Coefs) (d : Delay) (x : Word),
    (∀ n, n ∈ terms c d x → isQ31 (n * 2 ^ cfg.postShift)) →
    (∀ m, m ≤ 5 → isQ31 (((terms c d x).take m).sum * 2 ^ cfg.postShift)) →
    (stage { cfg with accMode := .wide } c d x).y = (stage { cfg with accMode := .stepwise } c d x).y ∧
    (stage { cfg with accMode := .wide } c d x).clamped = false ∧
    (stage { cfg with accMode := .stepwise } c d x).clamped = false

/-- R135: with ACC_MODE STEPWISE, MULHS with `POST_SHIFT` for each term in the order `b0, b1, b2, a1, a2` and
SADD32 for each partial sum give the engine's word, and one of them clamps exactly when the stage does. -/
def Obligations.StageByHandEqualsTheStepwiseEngine : Prop :=
  ∀ (s : State) (c : Coefs) (d : Delay) (x : Word),
    s.cfg.accMode = .stepwise →
    s.reg s.issuer 2 = c.b0 → s.reg s.issuer 3 = c.b1 → s.reg s.issuer 4 = c.b2 →
    s.reg s.issuer 5 = c.a1 → s.reg s.issuer 6 = c.a2 → s.reg s.issuer 12 = x →
    s.reg s.issuer 8 = d.x1 → s.reg s.issuer 9 = d.x2 → s.reg s.issuer 10 = d.y1 →
    s.reg s.issuer 11 = d.y2 → (s.port s.issuer).status.qf = false →
    ∃ t, execAll
        [.mulhs 13 2 12 s.cfg.postShift, .mulhs 14 3 8 s.cfg.postShift, .sadd32 13 13 14,
          .mulhs 14 4 9 s.cfg.postShift, .sadd32 13 13 14, .mulhs 14 5 10 s.cfg.postShift,
          .sadd32 13 13 14, .mulhs 14 6 11 s.cfg.postShift, .sadd32 13 13 14] s = some t ∧
      t.reg s.issuer 13 = (stage s.cfg c d x).y ∧
      (t.port s.issuer).status.qf = (stage s.cfg c d x).clamped

/-- R212: a band with `b0 = 2^COEF_FRAC` and zeros elsewhere returns its input with the low `POST_SHIFT` bits
cleared, and an input that entered from Q15 unchanged when `POST_SHIFT` is at most 16. -/
def Obligations.IdentityBandClearsTheLowBits : Prop :=
  ∀ (cfg : Params) (d : Delay) (x : Word), cfg.legal = true →
    (stage cfg (Params.identity cfg) d x).clamped = false ∧
    (stage cfg (Params.identity cfg) d x).y.toInt = x.toInt.fdiv (2 ^ cfg.postShift) * 2 ^ cfg.postShift ∧
    (cfg.postShift ≤ 16 → x.extractLsb' 0 16 = 0 → (stage cfg (Params.identity cfg) d x).y = x)

/-! ### Fixed-point operations (spec/41_fixedpoint.md) -/

/-- R131: the multiply-high primitive is bits 63:32 of the exact signed product, lies in `-2^30 .. 2^30`, and
reaches both ends. -/
def Obligations.MultiplyHighIsTheHighWord : Prop :=
  (∀ a b : Word,
    mulHigh a b = (a.toInt * b.toInt).fdiv 4294967296 ∧
    mulHigh a b = ((a.signExtend 64 * b.signExtend 64).extractLsb' 32 32).toInt ∧
    -1073741824 ≤ mulHigh a b ∧ mulHigh a b ≤ 1073741824) ∧
  mulHigh 0x80000000#32 0x7FFFFFFF#32 = -1073741824 ∧ mulHigh 0x80000000#32 0x80000000#32 = 1073741824

/-- R132: the zero, same-sign and opposite-sign cases of the multiply-high with the rule's two examples, its
behaviour under negation, and its commutativity. -/
def Obligations.MultiplyHighSigns : Prop :=
  (∀ a b : Word,
    (a = 0 ∨ b = 0 → mulHigh a b = 0) ∧
    (0 < a.toInt * b.toInt → mulHigh a b = (a.toInt * b.toInt).fdiv 4294967296 ∧ 0 ≤ mulHigh a b) ∧
    (a.toInt * b.toInt < 0 → mulHigh a b ≤ -1) ∧
    mulHigh a b = mulHigh b a ∧
    (∀ a' : Word, a'.toInt = -a.toInt →
      ((4294967296 ∣ a.toInt * b.toInt → mulHigh a' b = -mulHigh a b) ∧
        (¬ 4294967296 ∣ a.toInt * b.toInt → mulHigh a' b = -mulHigh a b - 1)))) ∧
  mulHigh 0xFFFFFFFF#32 0x00000001#32 = -1 ∧ mulHigh 0x00000001#32 0x00000001#32 = 0

/-- R130, R133, R136, R137, R140, R145, R147, R148: SADD32, SSUB32, SNEG32, SMUL31, MULHS and SSHL32 complete with the exact
result where it fits a word and the nearer extreme, status OverflowSaturated, `QF` and `ESR.SAT` where it
does not; nothing else changes. -/
def Obligations.WordArithmeticSaturates : Prop :=
  ∀ (i : Instr) (s : State) (rd : Reg) (n : Int), wordResult s i = some (rd, n) →
    ∃ t, exec i s = .next t ∧
      Saturates (-2147483648) 2147483647 0x80000000#32 0x7FFFFFFF#32 rd n s t ∧
      RegsKeptBut s.issuer rd s t ∧ t.esr.res = s.esr.res ∧ t.esr.inv = s.esr.inv ∧ Kept s.issuer [.esr] s t

/-- R130, R133, R134, R138, R139, R141, R146, R150: SADD16, SSUB16, SNEG16, SMUL15 and SAT16, likewise, for the
range of a half, the result sign-extended. -/
def Obligations.HalfArithmeticSaturates : Prop :=
  ∀ (i : Instr) (s : State) (rd : Reg) (n : Int), halfResult s i = some (rd, n) →
    ∃ t, exec i s = .next t ∧ Saturates (-32768) 32767 0xFFFF8000#32 0x00007FFF#32 rd n s t ∧
      RegsKeptBut s.issuer rd s t ∧ t.esr.res = s.esr.res ∧ t.esr.inv = s.esr.inv ∧ Kept s.issuer [.esr] s t

/-- R130, R142, R143, R144, R149: MULH, Q15TO31, Q31TO15 and ASR32 complete with their exact result, never
clamp, and change nothing else. -/
def Obligations.ConversionsAndShiftsAreExact : Prop :=
  ∀ (i : Instr) (s : State) (rd : Reg) (v : Word), exactResult s i = some (rd, v) →
    ∃ t, AnswersWith i s t rd v []

/-! ### Register movement and CSR access (spec/40_regmove_csr.md) -/

/-- R111, R115: NOP and GET change nothing but STATUS, the response and `cp`; GET answers its register. -/
def Obligations.NopAndGetOnlyAnswer : Prop :=
  ∀ (s : State) (ra : Reg),
    (∃ t, CompletesWith .nop s t 0 []) ∧ (∃ t, CompletesWith (.get ra) s t (s.reg s.issuer ra) [])

/-- R112, R113, R114: LDI writes its immediate sign-extended, LDIH the high half only, MOV a copy. -/
def Obligations.LoadsAndMovesWriteOneRegister : Prop :=
  ∀ (s : State) (rd ra : Reg) (imm : Half),
    (∃ t, AnswersWith (.ldi rd imm) s t rd (imm.signExtend 32) []) ∧
    (∃ t v, AnswersWith (.ldih rd imm) s t rd v [] ∧ v.extractLsb' 16 16 = imm ∧
      v.extractLsb' 0 16 = (s.reg s.issuer rd).extractLsb' 0 16) ∧
    (∃ t, AnswersWith (.mov rd ra) s t rd (s.reg s.issuer ra) [])

/-- R116, R41 to R48: CSRRD of an implemented register writes the word whose fields are the state before the
command's own completion, and changes nothing else. -/
def Obligations.CsrReadShowsTheFields : Prop :=
  ∀ (s : State) (rd : Reg) (n : Half), csrImplemented s.cfg n.toNat →
    ∃ t v, AnswersWith (.csrrd rd n) s t rd v [] ∧ csrShows s s.issuer n.toNat v

/-- R49: a CSRRD or CSRWR of an unimplemented number and a CSRWR to a read-only register are rejected with CSR,
and no register and no CSR changes. -/
def Obligations.UnimplementedAndReadOnlyCsrsAreRejected : Prop :=
  ∀ (s : State) (r : Reg) (n : Half),
    (¬ csrImplemented s.cfg n.toNat → Rejected (.csrrd r n) s .csr ∧ Rejected (.csrwr r n) s .csr) ∧
    (csrImplemented s.cfg n.toNat → ¬ csrWritable n.toNat → Rejected (.csrwr r n) s .csr)

/-- R117, R41, R42, R45, R47: CSRWR of a writable register completes with that write and no other. -/
def Obligations.CsrWriteWritesOneRegister : Prop :=
  ∀ (s : State) (rs : Reg) (n : Half), csrWritable n.toNat →
    ∃ t, exec (.csrwr rs n) s = .next t ∧ Responded s.issuer .ok 0 s t ∧ RegsKept s.issuer s t ∧
      Kept s.issuer (csrParts n.toNat) s t ∧
      (n.toNat ≠ 0x0002 → QfKept s.issuer s t) ∧
      (n.toNat = 0x0002 → ((t.port s.issuer).status.qf = true ↔
        (s.port s.issuer).status.qf = true ∧ (s.reg s.issuer rs).getLsbD 8 = false)) ∧
      (n.toNat = 0x0003 →
        (t.esr.res = true ↔ s.esr.res = true ∧ (s.reg s.issuer rs).getLsbD 0 = false) ∧
        (t.esr.inv = true ↔ s.esr.inv = true ∧ (s.reg s.issuer rs).getLsbD 1 = false) ∧
        (t.esr.sat = true ↔ s.esr.sat = true ∧ (s.reg s.issuer rs).getLsbD 2 = false)) ∧
      (n.toNat = 0x0006 → t.overrun = s.reg s.issuer rs) ∧
      (n.toNat = 0x0007 → t.underrun = s.reg s.issuer rs) ∧
      (n.toNat = 0x0008 → t.satcnt = s.reg s.issuer rs) ∧
      (n.toNat = 0x000A → t.goIe = (s.reg s.issuer rs).getLsbD 0)

/-! ### Buffer pool and sample access (spec/42_bufferpool.md) -/

/-- R161, R162: TAKE and TAKEB on port A with a buffer free hand out the head of the free list, with count 0. -/
def Obligations.TakeHandsOutTheHead : Prop :=
  ∀ (i : Instr) (s : State) (rd : Reg) (b : Nat) (rest : List Nat),
    i = .take rd ∨ i = .takeb rd → s.issuer = .a → s.freeq = b :: rest →
    ∃ t, AnswersWith i s t rd (BitVec.ofNat 32 b) [.freeq, .own, .cnt] ∧ t.freeq = rest ∧
      t.ownOf b = .prod ∧ (∀ b', b' ≠ b → t.ownOf b' = s.ownOf b') ∧
      t.cntOf b = 0 ∧ (∀ b', b' ≠ b → t.cntOf b' = s.cntOf b')

/-- R242: ResourceExhausted is raised only by TAKE with the free list empty and by CTAKE with the output queue
empty, and does what the rule lists; a TAKEB is never answered so. -/
def Obligations.OnlyTakeAndCtakeAreExhausted : Prop :=
  (∀ (i : Instr) (s t : State), exec i s = .next t → Responded s.issuer .resourceExhausted 0xFFFFFFFF#32 s t →
    (∃ rd, i = .take rd ∧ s.issuer = .a ∧ s.freeq = []) ∨
      (∃ rd, i = .ctake rd ∧ s.issuer = .c ∧ s.outq = [])) ∧
  (∀ (i : Instr) (s t : State) (v : Word), exec i s = .next t → Responded s.issuer .resourceExhausted v s t →
    v = 0xFFFFFFFF#32) ∧
  (∀ (s : State) (rd : Reg), s.issuer = .a → s.freeq = [] →
    ∃ t, exec (.take rd) s = .next t ∧ t.reg .a rd = 0xFFFFFFFF#32 ∧
      Responded .a .resourceExhausted 0xFFFFFFFF#32 s t ∧ RegsKeptBut .a rd s t ∧ QfKept .a s t ∧
      t.overrun.toNat = min (s.overrun.toNat + 1) 0xFFFFFFFF ∧ t.esr.res = true ∧
      t.esr.inv = s.esr.inv ∧ t.esr.sat = s.esr.sat ∧ Kept .a [.overrun, .esr] s t) ∧
  (∀ (s : State) (rd : Reg), s.issuer = .c → s.outq = [] →
    ∃ t, exec (.ctake rd) s = .next t ∧ t.reg .c rd = 0xFFFFFFFF#32 ∧
      Responded .c .resourceExhausted 0xFFFFFFFF#32 s t ∧ RegsKeptBut .c rd s t ∧ QfKept .c s t ∧
      t.underrun.toNat = min (s.underrun.toNat + 1) 0xFFFFFFFF ∧ t.esr.res = true ∧
      t.esr.inv = s.esr.inv ∧ t.esr.sat = s.esr.sat ∧ Kept .c [.underrun, .esr] s t)

/-- R163: GIVE of a buffer the producer holds, its writes drained, appends it to the output queue. -/
def Obligations.GiveQueuesTheBuffer : Prop :=
  ∀ (s : State) (ra : Reg), s.issuer = .a → idx s ra < s.cfg.nbuf → s.ownOf (idx s ra) = .prod →
    s.wb .a = [] →
    ∃ t, CompletesWith (.give ra) s t 0 [.own, .outq] ∧ t.outq = s.outq ++ [idx s ra] ∧
      t.ownOf (idx s ra) = .queued ∧ (∀ b, b ≠ idx s ra → t.ownOf b = s.ownOf b)

/-- R165: CTAKE with a buffer queued hands the consumer the head of the output queue. -/
def Obligations.CtakeHandsOutTheHead : Prop :=
  ∀ (s : State) (rd : Reg) (b : Nat) (rest : List Nat), s.issuer = .c → s.outq = b :: rest →
    ∃ t, AnswersWith (.ctake rd) s t rd (BitVec.ofNat 32 b) [.outq, .own] ∧ t.outq = rest ∧
      t.ownOf b = .cons ∧ (∀ b', b' ≠ b → t.ownOf b' = s.ownOf b')

/-- R166: CGIVE of a buffer the consumer holds appends it to the free list. -/
def Obligations.CgiveFreesTheBuffer : Prop :=
  ∀ (s : State) (ra : Reg), s.issuer = .c → idx s ra < s.cfg.nbuf → s.ownOf (idx s ra) = .cons →
    ∃ t, CompletesWith (.cgive ra) s t 0 [.own, .freeq] ∧ t.freeq = s.freeq ++ [idx s ra] ∧
      t.ownOf (idx s ra) = .free ∧ (∀ b, b ≠ idx s ra → t.ownOf b = s.ownOf b)

/-- R168, R169: SETCNT writes the count of a buffer the producer side holds; GETCNT reads any buffer's count
on any port. -/
def Obligations.CountsAreSetAndRead : Prop :=
  (∀ (s : State) (ra rb : Reg), s.issuer = .a → idx s ra < s.cfg.nbuf → idx s rb ≤ s.cfg.cap →
    s.ownOf (idx s ra) = .prod ∨ s.ownOf (idx s ra) = .split →
    ∃ t, CompletesWith (.setcnt ra rb) s t 0 [.cnt] ∧ t.cntOf (idx s ra) = idx s rb ∧
      ∀ b, b ≠ idx s ra → t.cntOf b = s.cntOf b) ∧
  (∀ (s : State) (rd ra : Reg), idx s ra < s.cfg.nbuf →
    ∃ t, AnswersWith (.getcnt rd ra) s t rd (BitVec.ofNat 32 (s.cntOf (idx s ra))) [])

/-- R170, R172, R70: STS and STF with room in the port's buffer append their halves, lowest index first, and
change no memory. -/
def Obligations.StoresArePosted : Prop :=
  ∀ (i : Instr) (s : State) (q : CorePort), isStore i → s.issuer = q.port → valid s i →
    roomFor s q (storedHalves s i).length →
    ∃ t, CompletesWith i s t 0 [.posted] ∧
      t.wb q = s.wb q ++ (storedHalves s i).map (fun e => Posted.smp e.1 e.2.1 e.2.2) ∧
      ∀ q', q' ≠ q → t.wb q' = s.wb q'

/-- R170, R172, R70: STS and STF whose entries the port's buffer could never hold write memory in their own
step once the buffer is empty: the cells of `storedHalves`, and no other. -/
def Obligations.UnpostableStoresAreDirect : Prop :=
  ∀ (i : Instr) (s : State) (q : CorePort) (d : Nat), isStore i → s.issuer = q.port → valid s i →
    s.cfg.wbDepth = some d → d < (storedHalves s i).length → s.wb q = [] →
    ∃ t, CompletesWith i s t 0 [.samples] ∧
      (∀ e, e ∈ storedHalves s i → t.smpAt e.1 e.2.1 = e.2.2) ∧
      (∀ b n, (∀ e, e ∈ storedHalves s i → (b, n) ≠ (e.1, e.2.1)) → t.smpAt b n = s.smpAt b n)

/-- R171, R173, R73: LDS and LDF on any port return what the port sees, each half on its own, LDS
sign-extended, LDF channel 1 above channel 0; nothing else changes. -/
def Obligations.LoadsReturnWhatThePortSees : Prop :=
  (∀ (s : State) (p : Port) (b n : Nat), ∃ v, SeesSample s p b n v ∧ ∀ v', SeesSample s p b n v' → v' = v) ∧
  (∀ (s : State) (rd ra rb : Reg), valid s (.lds rd ra rb) →
    ∃ t v, SeesSample s s.issuer (idx s ra) (idx s rb) v ∧
      AnswersWith (.lds rd ra rb) s t rd (v.signExtend 32) []) ∧
  (∀ (s : State) (rd ra rb : Reg), valid s (.ldf rd ra rb) →
    ∃ t v0 v1, SeesSample s s.issuer (idx s ra) (2 * idx s rb) v0 ∧
      SeesSample s s.issuer (idx s ra) (2 * idx s rb + 1) v1 ∧
      AnswersWith (.ldf rd ra rb) s t rd (v1 ++ v0) [])

/-- R179: FLUSH with engine B idle and both posted-write buffers empty returns the pool, the barrier and the
filter state to their reset condition and keeps everything else. -/
def Obligations.FlushRestoresPoolBarrierAndFilter : Prop :=
  ∀ s : State, s.issuer = .a → s.engine .b = .idle → s.wb .a = [] → s.wb .b = [] →
    ∃ t, CompletesWith .flush s t 0 [.own, .cnt, .freeq, .outq, .bar, .jobBuf, .filter] ∧
      (∀ b, t.ownOf b = .free ∧ t.cntOf b = 0) ∧ t.freeq = List.range s.cfg.nbuf ∧ t.outq = [] ∧
      t.bar = .idle ∧ t.jobBuf = 0 ∧ (∀ c k j, t.stAt c k j = 0) ∧ t.irqB = false

/-! ### Biquad core (spec/43_biquad.md) -/

/-- R197, R70: COEFWR with room in the port's buffer posts its word and sets `coef_dirty`; where the buffer
could never hold it, it writes memory once the buffer is empty. -/
def Obligations.CoefwrMarksAndWrites : Prop :=
  ∀ (s : State) (q : CorePort) (rs : Reg) (k j : Nat), s.issuer = q.port → k < s.cfg.nband → j < 5 →
    (roomFor s q 1 →
      ∃ t, CompletesWith (.coefwr rs k j) s t 0 [.posted, .coefDirty] ∧ t.coefDirty = true ∧
        t.wb q = s.wb q ++ [.coef k j (s.reg s.issuer rs)] ∧ ∀ q', q' ≠ q → t.wb q' = s.wb q') ∧
    (s.cfg.wbDepth = some 0 → s.wb q = [] →
      ∃ t, CompletesWith (.coefwr rs k j) s t 0 [.coefs, .coefDirty] ∧ t.coefDirty = true ∧
        t.coefAt k j = s.reg s.issuer rs ∧ ∀ k' j', (k', j') ≠ (k, j) → t.coefAt k' j' = s.coefAt k' j')

/-- R198, R211, R73: COEFRD returns the coefficient word the port sees, STRD the filter state word; nothing
else changes. -/
def Obligations.CoefficientAndStateReads : Prop :=
  (∀ (s : State) (p : Port) (k j : Nat), ∃ v, SeesCoef s p k j v ∧ ∀ v', SeesCoef s p k j v' → v' = v) ∧
  (∀ (s : State) (rd : Reg) (k j : Nat), s.issuer ≠ .c → k < s.cfg.nband → j < 5 →
    ∃ t v, SeesCoef s s.issuer k j v ∧ AnswersWith (.coefrd rd k j) s t rd v []) ∧
  (∀ (s : State) (rd : Reg) (c : Fin 2) (k j : Nat), k < s.cfg.nband → j < 4 →
    ∃ t, AnswersWith (.strd rd c.val k j) s t rd (s.stAt c k j) [])

/-- R199, R200: COMMIT, its port's writes drained, zeroes the whole filter state and clears `coef_dirty`; EQEN
zeroes the whole filter state and sets `EQ_EN`, whatever is posted. -/
def Obligations.CommitAndEqenZeroTheFilter : Prop :=
  ∀ (s : State) (q : CorePort), s.issuer = q.port →
    (s.wb q = [] → ∃ t, CompletesWith .commit s t 0 [.filter, .coefDirty] ∧ t.coefDirty = false ∧
      ∀ c k j, t.stAt c k j = 0) ∧
    (∀ e : Bool, ∃ t, CompletesWith (.eqen e) s t 0 [.filter, .eqEn] ∧ t.eqEn = e ∧
      ∀ c k j, t.stAt c k j = 0)

/-- R203, R204: BQRUN with its holds clear, the equalizer enabled and frames to filter locks the channel and
starts the engine of its port; no port changes, so the command stays outstanding. -/
def Obligations.BqrunStartsTheEngine : Prop :=
  ∀ (s : State) (q : CorePort) (ra : Reg) (c : Fin 2), s.issuer = q.port → valid s (.bqrun ra c) →
    s.wb q = [] → s.coefDirty = false → s.lockOf c = none → s.eqEn = true → s.cntOf (idx s ra) ≠ 0 →
    ∃ t, exec (.bqrun ra c) s = .next t ∧
      t.engine q = .run
        { b := idx s ra, c := c, n := s.cntOf (idx s ra), i := 0, k := 0, v := 0, sat := false } ∧
      (∀ q', q' ≠ q → t.engine q' = s.engine q') ∧
      t.lockOf c = some q ∧ (∀ c', c' ≠ c → t.lockOf c' = s.lockOf c') ∧
      (∀ p, t.port p = s.port p) ∧ Kept s.issuer [.engines, .locks] s t

/-- R201, R203: BQRUN in bypass or on an empty block completes at once and touches nothing. -/
def Obligations.BqrunBypassTouchesNothing : Prop :=
  ∀ (s : State) (q : CorePort) (ra : Reg) (c : Fin 2), s.issuer = q.port → valid s (.bqrun ra c) →
    s.wb q = [] → s.coefDirty = false → s.lockOf c = none →
    s.eqEn = false ∨ s.cntOf (idx s ra) = 0 →
    ∃ t, CompletesWith (.bqrun ra c) s t 0 []

/-! ### Dispatcher and barrier (spec/44_dispatch.md) -/

/-- R221: FORK of a buffer the producer holds, the barrier idle and port A's writes drained, publishes the
buffer and raises the go token, and with it the interrupt if it is enabled. -/
def Obligations.ForkPublishesTheBlock : Prop :=
  ∀ (s : State) (ra : Reg), s.cfg.legal = true → s.issuer = .a → idx s ra < s.cfg.nbuf →
    s.ownOf (idx s ra) = .prod → s.bar = .idle → s.wb .a = [] →
    ∃ t, CompletesWith (.fork ra) s t 0 [.own, .bar, .jobBuf] ∧ t.jobBuf.toNat = idx s ra ∧
      t.ownOf (idx s ra) = .split ∧ (∀ b, b ≠ idx s ra → t.ownOf b = s.ownOf b) ∧
      t.bar = .goPending ∧ t.irqB = s.goIe

/-- R222: ACCEPT with the go token pending takes it, returns `job_buf` zero-extended, and lets the interrupt
fall. -/
def Obligations.AcceptTakesTheToken : Prop :=
  ∀ (s : State) (rd : Reg), s.issuer = .b → s.bar = .goPending →
    ∃ t v, AnswersWith (.accept rd) s t rd v [.bar] ∧ v.toNat = s.jobBuf.toNat ∧ t.bar = .bActive ∧
      t.irqB = false

/-- R223: DONE with the token accepted and port B's writes drained posts the completion token. -/
def Obligations.DonePostsTheCompletion : Prop :=
  ∀ s : State, s.issuer = .b → s.bar = .bActive → s.wb .b = [] →
    ∃ t, CompletesWith .done s t 0 [.bar] ∧ t.bar = .donePending

/-- R224: JOIN with the completion token posted takes it and gives the buffer back to the producer. -/
def Obligations.JoinTakesTheBufferBack : Prop :=
  ∀ s : State, s.issuer = .a → s.bar = .donePending →
    ∃ t, CompletesWith .join s t 0 [.bar, .own] ∧ t.bar = .idle ∧ t.ownOf s.jobBuf.toNat = .prod ∧
      ∀ b, b ≠ s.jobBuf.toNat → t.ownOf b = s.ownOf b

/-- R225: FENCE completes with no other effect when its port has nothing posted; on port C always. -/
def Obligations.FenceOnlyWaits : Prop :=
  ∀ s : State, posted s s.issuer = [] → ∃ t, CompletesWith .fence s t 0 []

/-! ### Status, rights and order of checks (spec/60_exceptions.md) -/

/-- R240, R241: the numbers of the status codes and of the sub-causes. -/
def Obligations.StatusNumbers : Prop :=
  Cond.ok.code = 0 ∧ Cond.resourceExhausted.code = 1 ∧ (∀ c, (Cond.invalidParameter c).code = 2) ∧
  Cond.overflowSaturated.code = 3 ∧ Cond.ok.sub = 0 ∧ Cond.resourceExhausted.sub = 0 ∧
  Cond.overflowSaturated.sub = 0 ∧ (Cond.invalidParameter .reserved).sub = 1 ∧
  (Cond.invalidParameter .port).sub = 2 ∧ (Cond.invalidParameter .range).sub = 3 ∧
  (Cond.invalidParameter .owner).sub = 4 ∧ (Cond.invalidParameter .protocol).sub = 5 ∧
  (Cond.invalidParameter .csr).sub = 6

/-- R252: a command on a port its table marks "no" is rejected with PORT, and on no other port. -/
def Obligations.PortRightsDecideThePortRejection : Prop :=
  ∀ (i : Instr) (s : State),
    (allowed i s.issuer = false → Rejected i s .port) ∧
    (allowed i s.issuer = true → ∀ t v, exec i s = .next t → ¬ Responded s.issuer (.invalidParameter .port) v s t)

/-- R246, R12, R13: on an allowed port, range (or CSR number) before owner before protocol; a command that
passes them and whose hold condition is true changes nothing; one whose hold is clear is not rejected. -/
def Obligations.ChecksComeInTheFixedOrder : Prop :=
  ∀ (i : Instr) (s : State), allowed i s.issuer = true →
    (¬ rangeOk s i → Rejected i s (rangeCause i)) ∧
    (rangeOk s i → ¬ ownerOk s i → Rejected i s .owner) ∧
    (rangeOk s i → ownerOk s i → ¬ protocolOk s i → Rejected i s .protocol) ∧
    (valid s i → waits s i → exec i s = .next s) ∧
    (valid s i → ¬ waits s i → ∃ t, exec i s = .next t ∧ t ≠ s ∧
      ∀ c v, ¬ Responded s.issuer (.invalidParameter c) v s t)

/-! ### Whole-machine rules -/

/-- R33, R32: every step keeps the pool invariant, and under it the five ownership values share out the
`NBUF` buffers. -/
def Obligations.EveryStepKeepsThePoolInvariant : Prop :=
  ∀ s : State, PoolInv s →
    (owned s .free .free + owned s .prod .prod + owned s .split .split + owned s .queued .queued +
      owned s .cons .cons = s.cfg.nbuf) ∧
    (∀ t, step s = .next t → PoolInv t)

/-- R30, R50, R51, R52, R77: every step keeps the engine invariant. -/
def Obligations.EveryStepKeepsTheEngineInvariant : Prop :=
  ∀ s t : State, RunInv s → step s = .next t → RunInv t

/-- Every step keeps every memory in canonical form. The canonical form is the model's
(notes/assumptions/6.md). -/
def Obligations.EveryStepKeepsTheMemoriesCanonical : Prop :=
  ∀ s t : State, s.memWf = true → step s = .next t → t.memWf = true

/-- R54, R271: the reset state of every instance, for all contents of what R22 and R29 leave unspecified (the
registers and sample memory), meets the pool invariant and the engine invariant; and its memories are canonical
whenever the given sample memory is. The canonical form is the model's (notes/assumptions/6.md), and so is what
an unlisted sample reads as (notes/assumptions/4.md), on which no clause rests. -/
def Obligations.ResetMeetsTheInvariants : Prop :=
  ∀ (cfg : Params) (xa xb xc : Vector Word 16) (smp : Table (Table Half)),
    PoolInv (State.resetOf cfg xa xb xc smp) ∧ RunInv (State.resetOf cfg xa xb xc smp) ∧
      (samplesWf smp = true → (State.resetOf cfg xa xb xc smp).memWf = true)

/-- R250: in a legal instance no run from a state that meets the engine invariant, whatever the schedule and
the command lists, stops with a fault or a refusal. -/
def Obligations.TheUnitNeverStops : Prop :=
  ∀ (n : Nat) (s : State), s.cfg.legal = true → RunInv s →
    ∃ t, Host.Core.run Sys2Proof.core n s = .next t ∧ RunInv t

/-- R31: a buffer changes ownership only by the command of its transition. -/
def Obligations.OwnershipMovesOnlyByItsCommands : Prop :=
  ∀ (s t : State) (b : Nat), PoolInv s → step s = .next t → t.ownOf b ≠ s.ownOf b →
    ∃ p i, stepRuns s p i ∧ ownMove i (s.ownOf b) (t.ownOf b)

/-- R220: the barrier moves only by the command of its move. -/
def Obligations.TheBarrierMovesOnlyByItsCommands : Prop :=
  ∀ s t : State, step s = .next t → t.bar ≠ s.bar → ∃ p i, stepRuns s p i ∧ barMove i s.bar t.bar

/-- R21, R24, R26: only a port's own step changes its registers, and only that step or the end of its engine's
run changes anything of the port: a step of any other agent, an idle engine's, and an engine step that leaves
the engine running keep the whole of it. -/
def Obligations.PortsArePrivate : Prop :=
  ∀ (s t : State) (g : Agent) (rest : List Agent) (p : Port), s.sched = g :: rest → step s = .next t →
    g ≠ .port p →
    RegsKept p s t ∧
    ((∀ q, q.port = p → g = .engine q → s.engine q = .idle ∨ t.engine q ≠ .idle) → t.port p = s.port p)

/-- R27: `QF` is cleared only by a CSRWR of bit 8 to STATUS by its own port. -/
def Obligations.QfIsSticky : Prop :=
  ∀ (s t : State) (p : Port), step s = .next t → (s.port p).status.qf = true →
    (t.port p).status.qf = false →
    ∃ rs, stepRuns s p (.csrwr rs 0x0002#16) ∧ (s.reg p rs).getLsbD 8 = true

/-- R28: a bit of `ESR` is cleared only by a CSRWR of that bit to ESR, on any port. -/
def Obligations.EsrIsSticky : Prop :=
  ∀ s t : State, step s = .next t →
    (s.esr.res = true → t.esr.res = false →
      ∃ p rs, stepRuns s p (.csrwr rs 0x0003#16) ∧ (s.reg p rs).getLsbD 0 = true) ∧
    (s.esr.inv = true → t.esr.inv = false →
      ∃ p rs, stepRuns s p (.csrwr rs 0x0003#16) ∧ (s.reg p rs).getLsbD 1 = true) ∧
    (s.esr.sat = true → t.esr.sat = false →
      ∃ p rs, stepRuns s p (.csrwr rs 0x0003#16) ∧ (s.reg p rs).getLsbD 2 = true)

/-- R205, R209: stage steps of the two engines on different channels commute: either order leaves the same
samples, filter state, engines, locks, ports, counters and status. -/
def Obligations.StageStepsOfTheTwoEnginesCommute : Prop :=
  ∀ (s : State) (ra rb : Run), s.cfg.legal = true → s.engine .a = .run ra → s.engine .b = .run rb →
    ra.c ≠ rb.c → runOk s ra → runOk s rb →
    ∃ t t', Host.Core.run Sys2Proof.core 2 { s with sched := [.engine .a, .engine .b] } = .next t ∧
      Host.Core.run Sys2Proof.core 2 { s with sched := [.engine .b, .engine .a] } = .next t' ∧
      SharedKept [] t t' ∧ (∀ p, t'.port p = t.port p)

/-- R14, R72, R285: under every weakly fair schedule each engine's run ends; each posted write, whatever is posted
before and after it, comes to be the oldest of its buffer and is then taken out by a drain step, the later entries
kept in order; and a hold for posted writes ends: while a command stays outstanding on a core port, the buffer of
that port comes to be empty. Weak fairness is the predicate of notes/assumptions/13.md. -/
def Obligations.FairnessEndsRunsAndDrains : Prop :=
  ∀ (s : State) (g : Nat → Agent) (q : CorePort), s.cfg.legal = true → RunInv s → WeaklyFair g s →
    (∃ n, (s.under g n).engine q = .idle) ∧
    (∀ earlier e later, s.wb q = earlier ++ e :: later →
      ∃ n more, g n = .drain q ∧ (s.under g n).wb q = e :: (later ++ more) ∧
        (s.under g (n + 1)).wb q = later ++ more) ∧
    ((s.port q.port).outstanding ≠ none →
      ∃ n, (s.under g n).wb q = [] ∨ ((s.under g n).port q.port).outstanding = none)

/-- R54: the reset state of every instance, for all contents of what the rule leaves unspecified (the registers
and sample memory). -/
def Obligations.ResetPutsEveryPieceAtItsValue : Prop :=
  ∀ (cfg : Params) (xa xb xc : Vector Word 16) (smp : Table (Table Half)),
    let s := State.resetOf cfg xa xb xc smp
    (∀ p, (s.port p).cp = 0 ∧ (s.port p).outstanding = none ∧
      (s.port p).status = { cond := .ok, qf := false }) ∧
    s.esr = { res := false, inv := false, sat := false } ∧ (∀ b, s.cntOf b = 0 ∧ s.ownOf b = .free) ∧
    s.freeq = List.range cfg.nbuf ∧ s.outq = [] ∧
    (∀ k, s.coefAt k 0 = BitVec.ofNat 32 (2 ^ cfg.coefFrac) ∧ s.coefAt k 1 = 0 ∧ s.coefAt k 2 = 0 ∧
      s.coefAt k 3 = 0 ∧ s.coefAt k 4 = 0) ∧
    (∀ c k j, s.stAt c k j = 0) ∧ s.eqEn = false ∧ s.coefDirty = false ∧ s.bar = .idle ∧ s.jobBuf = 0 ∧
    s.goIe = false ∧ s.irqB = false ∧ s.overrun = 0 ∧ s.underrun = 0 ∧ s.satcnt = 0 ∧
    (∀ q, s.wb q = [] ∧ s.engine q = .idle) ∧ (∀ c, s.lockOf c = none)
end

