-- ==== Sys2Proof/Laws/State.lean ====
section
/-! SUPPORT. Beside State: one lemma per field per update, true by rfl, so that no proof unfolds a record update. -/

namespace Sys2Proof.Machine

open Sys2Proof

variable (s : State)

/-! ### setPort -/

@[simp] theorem State.setPort_cfg (p : Port) (ps : PortState) : (s.setPort p ps).cfg = s.cfg := rfl
@[simp] theorem State.setPort_smp (p : Port) (ps : PortState) : (s.setPort p ps).smp = s.smp := rfl
@[simp] theorem State.setPort_cnt (p : Port) (ps : PortState) : (s.setPort p ps).cnt = s.cnt := rfl
@[simp] theorem State.setPort_own (p : Port) (ps : PortState) : (s.setPort p ps).own = s.own := rfl
@[simp] theorem State.setPort_freeq (p : Port) (ps : PortState) : (s.setPort p ps).freeq = s.freeq := rfl
@[simp] theorem State.setPort_outq (p : Port) (ps : PortState) : (s.setPort p ps).outq = s.outq := rfl
@[simp] theorem State.setPort_coef (p : Port) (ps : PortState) : (s.setPort p ps).coef = s.coef := rfl
@[simp] theorem State.setPort_st0 (p : Port) (ps : PortState) : (s.setPort p ps).st0 = s.st0 := rfl
@[simp] theorem State.setPort_st1 (p : Port) (ps : PortState) : (s.setPort p ps).st1 = s.st1 := rfl
@[simp] theorem State.setPort_eqEn (p : Port) (ps : PortState) : (s.setPort p ps).eqEn = s.eqEn := rfl
@[simp] theorem State.setPort_coefDirty (p : Port) (ps : PortState) : (s.setPort p ps).coefDirty = s.coefDirty := rfl
@[simp] theorem State.setPort_bar (p : Port) (ps : PortState) : (s.setPort p ps).bar = s.bar := rfl
@[simp] theorem State.setPort_jobBuf (p : Port) (ps : PortState) : (s.setPort p ps).jobBuf = s.jobBuf := rfl
@[simp] theorem State.setPort_goIe (p : Port) (ps : PortState) : (s.setPort p ps).goIe = s.goIe := rfl
@[simp] theorem State.setPort_esr (p : Port) (ps : PortState) : (s.setPort p ps).esr = s.esr := rfl
@[simp] theorem State.setPort_overrun (p : Port) (ps : PortState) : (s.setPort p ps).overrun = s.overrun := rfl
@[simp] theorem State.setPort_underrun (p : Port) (ps : PortState) : (s.setPort p ps).underrun = s.underrun := rfl
@[simp] theorem State.setPort_satcnt (p : Port) (ps : PortState) : (s.setPort p ps).satcnt = s.satcnt := rfl
@[simp] theorem State.setPort_lock0 (p : Port) (ps : PortState) : (s.setPort p ps).lock0 = s.lock0 := rfl
@[simp] theorem State.setPort_lock1 (p : Port) (ps : PortState) : (s.setPort p ps).lock1 = s.lock1 := rfl
@[simp] theorem State.setPort_issuer (p : Port) (ps : PortState) : (s.setPort p ps).issuer = s.issuer := rfl
@[simp] theorem State.setPort_sched (p : Port) (ps : PortState) : (s.setPort p ps).sched = s.sched := rfl
@[simp] theorem State.setPort_core (p : Port) (ps : PortState) (q' : CorePort) : (s.setPort p ps).core q' = s.core q' := rfl

/-! ### setReg -/

@[simp] theorem State.setReg_cfg (p : Port) (r : Reg) (v : Word) : (s.setReg p r v).cfg = s.cfg := rfl
@[simp] theorem State.setReg_smp (p : Port) (r : Reg) (v : Word) : (s.setReg p r v).smp = s.smp := rfl
@[simp] theorem State.setReg_cnt (p : Port) (r : Reg) (v : Word) : (s.setReg p r v).cnt = s.cnt := rfl
@[simp] theorem State.setReg_own (p : Port) (r : Reg) (v : Word) : (s.setReg p r v).own = s.own := rfl
@[simp] theorem State.setReg_freeq (p : Port) (r : Reg) (v : Word) : (s.setReg p r v).freeq = s.freeq := rfl
@[simp] theorem State.setReg_outq (p : Port) (r : Reg) (v : Word) : (s.setReg p r v).outq = s.outq := rfl
@[simp] theorem State.setReg_coef (p : Port) (r : Reg) (v : Word) : (s.setReg p r v).coef = s.coef := rfl
@[simp] theorem State.setReg_st0 (p : Port) (r : Reg) (v : Word) : (s.setReg p r v).st0 = s.st0 := rfl
@[simp] theorem State.setReg_st1 (p : Port) (r : Reg) (v : Word) : (s.setReg p r v).st1 = s.st1 := rfl
@[simp] theorem State.setReg_eqEn (p : Port) (r : Reg) (v : Word) : (s.setReg p r v).eqEn = s.eqEn := rfl
@[simp] theorem State.setReg_coefDirty (p : Port) (r : Reg) (v : Word) : (s.setReg p r v).coefDirty = s.coefDirty := rfl
@[simp] theorem State.setReg_bar (p : Port) (r : Reg) (v : Word) : (s.setReg p r v).bar = s.bar := rfl
@[simp] theorem State.setReg_jobBuf (p : Port) (r : Reg) (v : Word) : (s.setReg p r v).jobBuf = s.jobBuf := rfl
@[simp] theorem State.setReg_goIe (p : Port) (r : Reg) (v : Word) : (s.setReg p r v).goIe = s.goIe := rfl
@[simp] theorem State.setReg_esr (p : Port) (r : Reg) (v : Word) : (s.setReg p r v).esr = s.esr := rfl
@[simp] theorem State.setReg_overrun (p : Port) (r : Reg) (v : Word) : (s.setReg p r v).overrun = s.overrun := rfl
@[simp] theorem State.setReg_underrun (p : Port) (r : Reg) (v : Word) : (s.setReg p r v).underrun = s.underrun := rfl
@[simp] theorem State.setReg_satcnt (p : Port) (r : Reg) (v : Word) : (s.setReg p r v).satcnt = s.satcnt := rfl
@[simp] theorem State.setReg_lock0 (p : Port) (r : Reg) (v : Word) : (s.setReg p r v).lock0 = s.lock0 := rfl
@[simp] theorem State.setReg_lock1 (p : Port) (r : Reg) (v : Word) : (s.setReg p r v).lock1 = s.lock1 := rfl
@[simp] theorem State.setReg_issuer (p : Port) (r : Reg) (v : Word) : (s.setReg p r v).issuer = s.issuer := rfl
@[simp] theorem State.setReg_sched (p : Port) (r : Reg) (v : Word) : (s.setReg p r v).sched = s.sched := rfl
@[simp] theorem State.setReg_core (p : Port) (r : Reg) (v : Word) (q' : CorePort) : (s.setReg p r v).core q' = s.core q' := rfl

/-! ### respond -/

@[simp] theorem State.respond_cfg (p : Port) (c : Cond) (v : Word) : (s.respond p c v).cfg = s.cfg := rfl
@[simp] theorem State.respond_smp (p : Port) (c : Cond) (v : Word) : (s.respond p c v).smp = s.smp := rfl
@[simp] theorem State.respond_cnt (p : Port) (c : Cond) (v : Word) : (s.respond p c v).cnt = s.cnt := rfl
@[simp] theorem State.respond_own (p : Port) (c : Cond) (v : Word) : (s.respond p c v).own = s.own := rfl
@[simp] theorem State.respond_freeq (p : Port) (c : Cond) (v : Word) : (s.respond p c v).freeq = s.freeq := rfl
@[simp] theorem State.respond_outq (p : Port) (c : Cond) (v : Word) : (s.respond p c v).outq = s.outq := rfl
@[simp] theorem State.respond_coef (p : Port) (c : Cond) (v : Word) : (s.respond p c v).coef = s.coef := rfl
@[simp] theorem State.respond_st0 (p : Port) (c : Cond) (v : Word) : (s.respond p c v).st0 = s.st0 := rfl
@[simp] theorem State.respond_st1 (p : Port) (c : Cond) (v : Word) : (s.respond p c v).st1 = s.st1 := rfl
@[simp] theorem State.respond_eqEn (p : Port) (c : Cond) (v : Word) : (s.respond p c v).eqEn = s.eqEn := rfl
@[simp] theorem State.respond_coefDirty (p : Port) (c : Cond) (v : Word) : (s.respond p c v).coefDirty = s.coefDirty := rfl
@[simp] theorem State.respond_bar (p : Port) (c : Cond) (v : Word) : (s.respond p c v).bar = s.bar := rfl
@[simp] theorem State.respond_jobBuf (p : Port) (c : Cond) (v : Word) : (s.respond p c v).jobBuf = s.jobBuf := rfl
@[simp] theorem State.respond_goIe (p : Port) (c : Cond) (v : Word) : (s.respond p c v).goIe = s.goIe := rfl
@[simp] theorem State.respond_esr (p : Port) (c : Cond) (v : Word) : (s.respond p c v).esr = s.esr := rfl
@[simp] theorem State.respond_overrun (p : Port) (c : Cond) (v : Word) : (s.respond p c v).overrun = s.overrun := rfl
@[simp] theorem State.respond_underrun (p : Port) (c : Cond) (v : Word) : (s.respond p c v).underrun = s.underrun := rfl
@[simp] theorem State.respond_satcnt (p : Port) (c : Cond) (v : Word) : (s.respond p c v).satcnt = s.satcnt := rfl
@[simp] theorem State.respond_lock0 (p : Port) (c : Cond) (v : Word) : (s.respond p c v).lock0 = s.lock0 := rfl
@[simp] theorem State.respond_lock1 (p : Port) (c : Cond) (v : Word) : (s.respond p c v).lock1 = s.lock1 := rfl
@[simp] theorem State.respond_issuer (p : Port) (c : Cond) (v : Word) : (s.respond p c v).issuer = s.issuer := rfl
@[simp] theorem State.respond_sched (p : Port) (c : Cond) (v : Word) : (s.respond p c v).sched = s.sched := rfl
@[simp] theorem State.respond_core (p : Port) (c : Cond) (v : Word) (q' : CorePort) : (s.respond p c v).core q' = s.core q' := rfl

/-! ### raiseQf -/

@[simp] theorem State.raiseQf_cfg (p : Port) : (s.raiseQf p).cfg = s.cfg := rfl
@[simp] theorem State.raiseQf_smp (p : Port) : (s.raiseQf p).smp = s.smp := rfl
@[simp] theorem State.raiseQf_cnt (p : Port) : (s.raiseQf p).cnt = s.cnt := rfl
@[simp] theorem State.raiseQf_own (p : Port) : (s.raiseQf p).own = s.own := rfl
@[simp] theorem State.raiseQf_freeq (p : Port) : (s.raiseQf p).freeq = s.freeq := rfl
@[simp] theorem State.raiseQf_outq (p : Port) : (s.raiseQf p).outq = s.outq := rfl
@[simp] theorem State.raiseQf_coef (p : Port) : (s.raiseQf p).coef = s.coef := rfl
@[simp] theorem State.raiseQf_st0 (p : Port) : (s.raiseQf p).st0 = s.st0 := rfl
@[simp] theorem State.raiseQf_st1 (p : Port) : (s.raiseQf p).st1 = s.st1 := rfl
@[simp] theorem State.raiseQf_eqEn (p : Port) : (s.raiseQf p).eqEn = s.eqEn := rfl
@[simp] theorem State.raiseQf_coefDirty (p : Port) : (s.raiseQf p).coefDirty = s.coefDirty := rfl
@[simp] theorem State.raiseQf_bar (p : Port) : (s.raiseQf p).bar = s.bar := rfl
@[simp] theorem State.raiseQf_jobBuf (p : Port) : (s.raiseQf p).jobBuf = s.jobBuf := rfl
@[simp] theorem State.raiseQf_goIe (p : Port) : (s.raiseQf p).goIe = s.goIe := rfl
@[simp] theorem State.raiseQf_esr (p : Port) : (s.raiseQf p).esr = s.esr := rfl
@[simp] theorem State.raiseQf_overrun (p : Port) : (s.raiseQf p).overrun = s.overrun := rfl
@[simp] theorem State.raiseQf_underrun (p : Port) : (s.raiseQf p).underrun = s.underrun := rfl
@[simp] theorem State.raiseQf_satcnt (p : Port) : (s.raiseQf p).satcnt = s.satcnt := rfl
@[simp] theorem State.raiseQf_lock0 (p : Port) : (s.raiseQf p).lock0 = s.lock0 := rfl
@[simp] theorem State.raiseQf_lock1 (p : Port) : (s.raiseQf p).lock1 = s.lock1 := rfl
@[simp] theorem State.raiseQf_issuer (p : Port) : (s.raiseQf p).issuer = s.issuer := rfl
@[simp] theorem State.raiseQf_sched (p : Port) : (s.raiseQf p).sched = s.sched := rfl
@[simp] theorem State.raiseQf_core (p : Port) (q' : CorePort) : (s.raiseQf p).core q' = s.core q' := rfl

/-! ### clearQf -/

@[simp] theorem State.clearQf_cfg (p : Port) : (s.clearQf p).cfg = s.cfg := rfl
@[simp] theorem State.clearQf_smp (p : Port) : (s.clearQf p).smp = s.smp := rfl
@[simp] theorem State.clearQf_cnt (p : Port) : (s.clearQf p).cnt = s.cnt := rfl
@[simp] theorem State.clearQf_own (p : Port) : (s.clearQf p).own = s.own := rfl
@[simp] theorem State.clearQf_freeq (p : Port) : (s.clearQf p).freeq = s.freeq := rfl
@[simp] theorem State.clearQf_outq (p : Port) : (s.clearQf p).outq = s.outq := rfl
@[simp] theorem State.clearQf_coef (p : Port) : (s.clearQf p).coef = s.coef := rfl
@[simp] theorem State.clearQf_st0 (p : Port) : (s.clearQf p).st0 = s.st0 := rfl
@[simp] theorem State.clearQf_st1 (p : Port) : (s.clearQf p).st1 = s.st1 := rfl
@[simp] theorem State.clearQf_eqEn (p : Port) : (s.clearQf p).eqEn = s.eqEn := rfl
@[simp] theorem State.clearQf_coefDirty (p : Port) : (s.clearQf p).coefDirty = s.coefDirty := rfl
@[simp] theorem State.clearQf_bar (p : Port) : (s.clearQf p).bar = s.bar := rfl
@[simp] theorem State.clearQf_jobBuf (p : Port) : (s.clearQf p).jobBuf = s.jobBuf := rfl
@[simp] theorem State.clearQf_goIe (p : Port) : (s.clearQf p).goIe = s.goIe := rfl
@[simp] theorem State.clearQf_esr (p : Port) : (s.clearQf p).esr = s.esr := rfl
@[simp] theorem State.clearQf_overrun (p : Port) : (s.clearQf p).overrun = s.overrun := rfl
@[simp] theorem State.clearQf_underrun (p : Port) : (s.clearQf p).underrun = s.underrun := rfl
@[simp] theorem State.clearQf_satcnt (p : Port) : (s.clearQf p).satcnt = s.satcnt := rfl
@[simp] theorem State.clearQf_lock0 (p : Port) : (s.clearQf p).lock0 = s.lock0 := rfl
@[simp] theorem State.clearQf_lock1 (p : Port) : (s.clearQf p).lock1 = s.lock1 := rfl
@[simp] theorem State.clearQf_issuer (p : Port) : (s.clearQf p).issuer = s.issuer := rfl
@[simp] theorem State.clearQf_sched (p : Port) : (s.clearQf p).sched = s.sched := rfl
@[simp] theorem State.clearQf_core (p : Port) (q' : CorePort) : (s.clearQf p).core q' = s.core q' := rfl

/-! ### setCore -/

@[simp] theorem State.setCore_cfg (q : CorePort) (cs : CoreState) : (s.setCore q cs).cfg = s.cfg := rfl
@[simp] theorem State.setCore_smp (q : CorePort) (cs : CoreState) : (s.setCore q cs).smp = s.smp := rfl
@[simp] theorem State.setCore_cnt (q : CorePort) (cs : CoreState) : (s.setCore q cs).cnt = s.cnt := rfl
@[simp] theorem State.setCore_own (q : CorePort) (cs : CoreState) : (s.setCore q cs).own = s.own := rfl
@[simp] theorem State.setCore_freeq (q : CorePort) (cs : CoreState) : (s.setCore q cs).freeq = s.freeq := rfl
@[simp] theorem State.setCore_outq (q : CorePort) (cs : CoreState) : (s.setCore q cs).outq = s.outq := rfl
@[simp] theorem State.setCore_coef (q : CorePort) (cs : CoreState) : (s.setCore q cs).coef = s.coef := rfl
@[simp] theorem State.setCore_st0 (q : CorePort) (cs : CoreState) : (s.setCore q cs).st0 = s.st0 := rfl
@[simp] theorem State.setCore_st1 (q : CorePort) (cs : CoreState) : (s.setCore q cs).st1 = s.st1 := rfl
@[simp] theorem State.setCore_eqEn (q : CorePort) (cs : CoreState) : (s.setCore q cs).eqEn = s.eqEn := rfl
@[simp] theorem State.setCore_coefDirty (q : CorePort) (cs : CoreState) : (s.setCore q cs).coefDirty = s.coefDirty := rfl
@[simp] theorem State.setCore_bar (q : CorePort) (cs : CoreState) : (s.setCore q cs).bar = s.bar := rfl
@[simp] theorem State.setCore_jobBuf (q : CorePort) (cs : CoreState) : (s.setCore q cs).jobBuf = s.jobBuf := rfl
@[simp] theorem State.setCore_goIe (q : CorePort) (cs : CoreState) : (s.setCore q cs).goIe = s.goIe := rfl
@[simp] theorem State.setCore_esr (q : CorePort) (cs : CoreState) : (s.setCore q cs).esr = s.esr := rfl
@[simp] theorem State.setCore_overrun (q : CorePort) (cs : CoreState) : (s.setCore q cs).overrun = s.overrun := rfl
@[simp] theorem State.setCore_underrun (q : CorePort) (cs : CoreState) : (s.setCore q cs).underrun = s.underrun := rfl
@[simp] theorem State.setCore_satcnt (q : CorePort) (cs : CoreState) : (s.setCore q cs).satcnt = s.satcnt := rfl
@[simp] theorem State.setCore_lock0 (q : CorePort) (cs : CoreState) : (s.setCore q cs).lock0 = s.lock0 := rfl
@[simp] theorem State.setCore_lock1 (q : CorePort) (cs : CoreState) : (s.setCore q cs).lock1 = s.lock1 := rfl
@[simp] theorem State.setCore_issuer (q : CorePort) (cs : CoreState) : (s.setCore q cs).issuer = s.issuer := rfl
@[simp] theorem State.setCore_sched (q : CorePort) (cs : CoreState) : (s.setCore q cs).sched = s.sched := rfl
@[simp] theorem State.setCore_port (q : CorePort) (cs : CoreState) (p' : Port) : (s.setCore q cs).port p' = s.port p' := rfl

/-! ### setEngine -/

@[simp] theorem State.setEngine_cfg (q : CorePort) (e : Engine) : (s.setEngine q e).cfg = s.cfg := rfl
@[simp] theorem State.setEngine_smp (q : CorePort) (e : Engine) : (s.setEngine q e).smp = s.smp := rfl
@[simp] theorem State.setEngine_cnt (q : CorePort) (e : Engine) : (s.setEngine q e).cnt = s.cnt := rfl
@[simp] theorem State.setEngine_own (q : CorePort) (e : Engine) : (s.setEngine q e).own = s.own := rfl
@[simp] theorem State.setEngine_freeq (q : CorePort) (e : Engine) : (s.setEngine q e).freeq = s.freeq := rfl
@[simp] theorem State.setEngine_outq (q : CorePort) (e : Engine) : (s.setEngine q e).outq = s.outq := rfl
@[simp] theorem State.setEngine_coef (q : CorePort) (e : Engine) : (s.setEngine q e).coef = s.coef := rfl
@[simp] theorem State.setEngine_st0 (q : CorePort) (e : Engine) : (s.setEngine q e).st0 = s.st0 := rfl
@[simp] theorem State.setEngine_st1 (q : CorePort) (e : Engine) : (s.setEngine q e).st1 = s.st1 := rfl
@[simp] theorem State.setEngine_eqEn (q : CorePort) (e : Engine) : (s.setEngine q e).eqEn = s.eqEn := rfl
@[simp] theorem State.setEngine_coefDirty (q : CorePort) (e : Engine) : (s.setEngine q e).coefDirty = s.coefDirty := rfl
@[simp] theorem State.setEngine_bar (q : CorePort) (e : Engine) : (s.setEngine q e).bar = s.bar := rfl
@[simp] theorem State.setEngine_jobBuf (q : CorePort) (e : Engine) : (s.setEngine q e).jobBuf = s.jobBuf := rfl
@[simp] theorem State.setEngine_goIe (q : CorePort) (e : Engine) : (s.setEngine q e).goIe = s.goIe := rfl
@[simp] theorem State.setEngine_esr (q : CorePort) (e : Engine) : (s.setEngine q e).esr = s.esr := rfl
@[simp] theorem State.setEngine_overrun (q : CorePort) (e : Engine) : (s.setEngine q e).overrun = s.overrun := rfl
@[simp] theorem State.setEngine_underrun (q : CorePort) (e : Engine) : (s.setEngine q e).underrun = s.underrun := rfl
@[simp] theorem State.setEngine_satcnt (q : CorePort) (e : Engine) : (s.setEngine q e).satcnt = s.satcnt := rfl
@[simp] theorem State.setEngine_lock0 (q : CorePort) (e : Engine) : (s.setEngine q e).lock0 = s.lock0 := rfl
@[simp] theorem State.setEngine_lock1 (q : CorePort) (e : Engine) : (s.setEngine q e).lock1 = s.lock1 := rfl
@[simp] theorem State.setEngine_issuer (q : CorePort) (e : Engine) : (s.setEngine q e).issuer = s.issuer := rfl
@[simp] theorem State.setEngine_sched (q : CorePort) (e : Engine) : (s.setEngine q e).sched = s.sched := rfl
@[simp] theorem State.setEngine_port (q : CorePort) (e : Engine) (p' : Port) : (s.setEngine q e).port p' = s.port p' := rfl

/-! ### setWb -/

@[simp] theorem State.setWb_cfg (q : CorePort) (w : List Posted) : (s.setWb q w).cfg = s.cfg := rfl
@[simp] theorem State.setWb_smp (q : CorePort) (w : List Posted) : (s.setWb q w).smp = s.smp := rfl
@[simp] theorem State.setWb_cnt (q : CorePort) (w : List Posted) : (s.setWb q w).cnt = s.cnt := rfl
@[simp] theorem State.setWb_own (q : CorePort) (w : List Posted) : (s.setWb q w).own = s.own := rfl
@[simp] theorem State.setWb_freeq (q : CorePort) (w : List Posted) : (s.setWb q w).freeq = s.freeq := rfl
@[simp] theorem State.setWb_outq (q : CorePort) (w : List Posted) : (s.setWb q w).outq = s.outq := rfl
@[simp] theorem State.setWb_coef (q : CorePort) (w : List Posted) : (s.setWb q w).coef = s.coef := rfl
@[simp] theorem State.setWb_st0 (q : CorePort) (w : List Posted) : (s.setWb q w).st0 = s.st0 := rfl
@[simp] theorem State.setWb_st1 (q : CorePort) (w : List Posted) : (s.setWb q w).st1 = s.st1 := rfl
@[simp] theorem State.setWb_eqEn (q : CorePort) (w : List Posted) : (s.setWb q w).eqEn = s.eqEn := rfl
@[simp] theorem State.setWb_coefDirty (q : CorePort) (w : List Posted) : (s.setWb q w).coefDirty = s.coefDirty := rfl
@[simp] theorem State.setWb_bar (q : CorePort) (w : List Posted) : (s.setWb q w).bar = s.bar := rfl
@[simp] theorem State.setWb_jobBuf (q : CorePort) (w : List Posted) : (s.setWb q w).jobBuf = s.jobBuf := rfl
@[simp] theorem State.setWb_goIe (q : CorePort) (w : List Posted) : (s.setWb q w).goIe = s.goIe := rfl
@[simp] theorem State.setWb_esr (q : CorePort) (w : List Posted) : (s.setWb q w).esr = s.esr := rfl
@[simp] theorem State.setWb_overrun (q : CorePort) (w : List Posted) : (s.setWb q w).overrun = s.overrun := rfl
@[simp] theorem State.setWb_underrun (q : CorePort) (w : List Posted) : (s.setWb q w).underrun = s.underrun := rfl
@[simp] theorem State.setWb_satcnt (q : CorePort) (w : List Posted) : (s.setWb q w).satcnt = s.satcnt := rfl
@[simp] theorem State.setWb_lock0 (q : CorePort) (w : List Posted) : (s.setWb q w).lock0 = s.lock0 := rfl
@[simp] theorem State.setWb_lock1 (q : CorePort) (w : List Posted) : (s.setWb q w).lock1 = s.lock1 := rfl
@[simp] theorem State.setWb_issuer (q : CorePort) (w : List Posted) : (s.setWb q w).issuer = s.issuer := rfl
@[simp] theorem State.setWb_sched (q : CorePort) (w : List Posted) : (s.setWb q w).sched = s.sched := rfl
@[simp] theorem State.setWb_port (q : CorePort) (w : List Posted) (p' : Port) : (s.setWb q w).port p' = s.port p' := rfl

/-! ### setOwn -/

@[simp] theorem State.setOwn_cfg (b : Nat) (o : Own) : (s.setOwn b o).cfg = s.cfg := rfl
@[simp] theorem State.setOwn_smp (b : Nat) (o : Own) : (s.setOwn b o).smp = s.smp := rfl
@[simp] theorem State.setOwn_cnt (b : Nat) (o : Own) : (s.setOwn b o).cnt = s.cnt := rfl
@[simp] theorem State.setOwn_freeq (b : Nat) (o : Own) : (s.setOwn b o).freeq = s.freeq := rfl
@[simp] theorem State.setOwn_outq (b : Nat) (o : Own) : (s.setOwn b o).outq = s.outq := rfl
@[simp] theorem State.setOwn_coef (b : Nat) (o : Own) : (s.setOwn b o).coef = s.coef := rfl
@[simp] theorem State.setOwn_st0 (b : Nat) (o : Own) : (s.setOwn b o).st0 = s.st0 := rfl
@[simp] theorem State.setOwn_st1 (b : Nat) (o : Own) : (s.setOwn b o).st1 = s.st1 := rfl
@[simp] theorem State.setOwn_eqEn (b : Nat) (o : Own) : (s.setOwn b o).eqEn = s.eqEn := rfl
@[simp] theorem State.setOwn_coefDirty (b : Nat) (o : Own) : (s.setOwn b o).coefDirty = s.coefDirty := rfl
@[simp] theorem State.setOwn_bar (b : Nat) (o : Own) : (s.setOwn b o).bar = s.bar := rfl
@[simp] theorem State.setOwn_jobBuf (b : Nat) (o : Own) : (s.setOwn b o).jobBuf = s.jobBuf := rfl
@[simp] theorem State.setOwn_goIe (b : Nat) (o : Own) : (s.setOwn b o).goIe = s.goIe := rfl
@[simp] theorem State.setOwn_esr (b : Nat) (o : Own) : (s.setOwn b o).esr = s.esr := rfl
@[simp] theorem State.setOwn_overrun (b : Nat) (o : Own) : (s.setOwn b o).overrun = s.overrun := rfl
@[simp] theorem State.setOwn_underrun (b : Nat) (o : Own) : (s.setOwn b o).underrun = s.underrun := rfl
@[simp] theorem State.setOwn_satcnt (b : Nat) (o : Own) : (s.setOwn b o).satcnt = s.satcnt := rfl
@[simp] theorem State.setOwn_lock0 (b : Nat) (o : Own) : (s.setOwn b o).lock0 = s.lock0 := rfl
@[simp] theorem State.setOwn_lock1 (b : Nat) (o : Own) : (s.setOwn b o).lock1 = s.lock1 := rfl
@[simp] theorem State.setOwn_issuer (b : Nat) (o : Own) : (s.setOwn b o).issuer = s.issuer := rfl
@[simp] theorem State.setOwn_sched (b : Nat) (o : Own) : (s.setOwn b o).sched = s.sched := rfl
@[simp] theorem State.setOwn_core (b : Nat) (o : Own) (q' : CorePort) : (s.setOwn b o).core q' = s.core q' := rfl
@[simp] theorem State.setOwn_port (b : Nat) (o : Own) (p' : Port) : (s.setOwn b o).port p' = s.port p' := rfl

/-! ### setCnt -/

@[simp] theorem State.setCnt_cfg (b n : Nat) : (s.setCnt b n).cfg = s.cfg := rfl
@[simp] theorem State.setCnt_smp (b n : Nat) : (s.setCnt b n).smp = s.smp := rfl
@[simp] theorem State.setCnt_own (b n : Nat) : (s.setCnt b n).own = s.own := rfl
@[simp] theorem State.setCnt_freeq (b n : Nat) : (s.setCnt b n).freeq = s.freeq := rfl
@[simp] theorem State.setCnt_outq (b n : Nat) : (s.setCnt b n).outq = s.outq := rfl
@[simp] theorem State.setCnt_coef (b n : Nat) : (s.setCnt b n).coef = s.coef := rfl
@[simp] theorem State.setCnt_st0 (b n : Nat) : (s.setCnt b n).st0 = s.st0 := rfl
@[simp] theorem State.setCnt_st1 (b n : Nat) : (s.setCnt b n).st1 = s.st1 := rfl
@[simp] theorem State.setCnt_eqEn (b n : Nat) : (s.setCnt b n).eqEn = s.eqEn := rfl
@[simp] theorem State.setCnt_coefDirty (b n : Nat) : (s.setCnt b n).coefDirty = s.coefDirty := rfl
@[simp] theorem State.setCnt_bar (b n : Nat) : (s.setCnt b n).bar = s.bar := rfl
@[simp] theorem State.setCnt_jobBuf (b n : Nat) : (s.setCnt b n).jobBuf = s.jobBuf := rfl
@[simp] theorem State.setCnt_goIe (b n : Nat) : (s.setCnt b n).goIe = s.goIe := rfl
@[simp] theorem State.setCnt_esr (b n : Nat) : (s.setCnt b n).esr = s.esr := rfl
@[simp] theorem State.setCnt_overrun (b n : Nat) : (s.setCnt b n).overrun = s.overrun := rfl
@[simp] theorem State.setCnt_underrun (b n : Nat) : (s.setCnt b n).underrun = s.underrun := rfl
@[simp] theorem State.setCnt_satcnt (b n : Nat) : (s.setCnt b n).satcnt = s.satcnt := rfl
@[simp] theorem State.setCnt_lock0 (b n : Nat) : (s.setCnt b n).lock0 = s.lock0 := rfl
@[simp] theorem State.setCnt_lock1 (b n : Nat) : (s.setCnt b n).lock1 = s.lock1 := rfl
@[simp] theorem State.setCnt_issuer (b n : Nat) : (s.setCnt b n).issuer = s.issuer := rfl
@[simp] theorem State.setCnt_sched (b n : Nat) : (s.setCnt b n).sched = s.sched := rfl
@[simp] theorem State.setCnt_core (b n : Nat) (q' : CorePort) : (s.setCnt b n).core q' = s.core q' := rfl
@[simp] theorem State.setCnt_port (b n : Nat) (p' : Port) : (s.setCnt b n).port p' = s.port p' := rfl

/-! ### setSmp -/

@[simp] theorem State.setSmp_cfg (b i : Nat) (v : Half) : (s.setSmp b i v).cfg = s.cfg := rfl
@[simp] theorem State.setSmp_cnt (b i : Nat) (v : Half) : (s.setSmp b i v).cnt = s.cnt := rfl
@[simp] theorem State.setSmp_own (b i : Nat) (v : Half) : (s.setSmp b i v).own = s.own := rfl
@[simp] theorem State.setSmp_freeq (b i : Nat) (v : Half) : (s.setSmp b i v).freeq = s.freeq := rfl
@[simp] theorem State.setSmp_outq (b i : Nat) (v : Half) : (s.setSmp b i v).outq = s.outq := rfl
@[simp] theorem State.setSmp_coef (b i : Nat) (v : Half) : (s.setSmp b i v).coef = s.coef := rfl
@[simp] theorem State.setSmp_st0 (b i : Nat) (v : Half) : (s.setSmp b i v).st0 = s.st0 := rfl
@[simp] theorem State.setSmp_st1 (b i : Nat) (v : Half) : (s.setSmp b i v).st1 = s.st1 := rfl
@[simp] theorem State.setSmp_eqEn (b i : Nat) (v : Half) : (s.setSmp b i v).eqEn = s.eqEn := rfl
@[simp] theorem State.setSmp_coefDirty (b i : Nat) (v : Half) : (s.setSmp b i v).coefDirty = s.coefDirty := rfl
@[simp] theorem State.setSmp_bar (b i : Nat) (v : Half) : (s.setSmp b i v).bar = s.bar := rfl
@[simp] theorem State.setSmp_jobBuf (b i : Nat) (v : Half) : (s.setSmp b i v).jobBuf = s.jobBuf := rfl
@[simp] theorem State.setSmp_goIe (b i : Nat) (v : Half) : (s.setSmp b i v).goIe = s.goIe := rfl
@[simp] theorem State.setSmp_esr (b i : Nat) (v : Half) : (s.setSmp b i v).esr = s.esr := rfl
@[simp] theorem State.setSmp_overrun (b i : Nat) (v : Half) : (s.setSmp b i v).overrun = s.overrun := rfl
@[simp] theorem State.setSmp_underrun (b i : Nat) (v : Half) : (s.setSmp b i v).underrun = s.underrun := rfl
@[simp] theorem State.setSmp_satcnt (b i : Nat) (v : Half) : (s.setSmp b i v).satcnt = s.satcnt := rfl
@[simp] theorem State.setSmp_lock0 (b i : Nat) (v : Half) : (s.setSmp b i v).lock0 = s.lock0 := rfl
@[simp] theorem State.setSmp_lock1 (b i : Nat) (v : Half) : (s.setSmp b i v).lock1 = s.lock1 := rfl
@[simp] theorem State.setSmp_issuer (b i : Nat) (v : Half) : (s.setSmp b i v).issuer = s.issuer := rfl
@[simp] theorem State.setSmp_sched (b i : Nat) (v : Half) : (s.setSmp b i v).sched = s.sched := rfl
@[simp] theorem State.setSmp_core (b i : Nat) (v : Half) (q' : CorePort) : (s.setSmp b i v).core q' = s.core q' := rfl
@[simp] theorem State.setSmp_port (b i : Nat) (v : Half) (p' : Port) : (s.setSmp b i v).port p' = s.port p' := rfl

/-! ### setCoef -/

@[simp] theorem State.setCoef_cfg (k j : Nat) (v : Word) : (s.setCoef k j v).cfg = s.cfg := rfl
@[simp] theorem State.setCoef_smp (k j : Nat) (v : Word) : (s.setCoef k j v).smp = s.smp := rfl
@[simp] theorem State.setCoef_cnt (k j : Nat) (v : Word) : (s.setCoef k j v).cnt = s.cnt := rfl
@[simp] theorem State.setCoef_own (k j : Nat) (v : Word) : (s.setCoef k j v).own = s.own := rfl
@[simp] theorem State.setCoef_freeq (k j : Nat) (v : Word) : (s.setCoef k j v).freeq = s.freeq := rfl
@[simp] theorem State.setCoef_outq (k j : Nat) (v : Word) : (s.setCoef k j v).outq = s.outq := rfl
@[simp] theorem State.setCoef_st0 (k j : Nat) (v : Word) : (s.setCoef k j v).st0 = s.st0 := rfl
@[simp] theorem State.setCoef_st1 (k j : Nat) (v : Word) : (s.setCoef k j v).st1 = s.st1 := rfl
@[simp] theorem State.setCoef_eqEn (k j : Nat) (v : Word) : (s.setCoef k j v).eqEn = s.eqEn := rfl
@[simp] theorem State.setCoef_coefDirty (k j : Nat) (v : Word) : (s.setCoef k j v).coefDirty = s.coefDirty := rfl
@[simp] theorem State.setCoef_bar (k j : Nat) (v : Word) : (s.setCoef k j v).bar = s.bar := rfl
@[simp] theorem State.setCoef_jobBuf (k j : Nat) (v : Word) : (s.setCoef k j v).jobBuf = s.jobBuf := rfl
@[simp] theorem State.setCoef_goIe (k j : Nat) (v : Word) : (s.setCoef k j v).goIe = s.goIe := rfl
@[simp] theorem State.setCoef_esr (k j : Nat) (v : Word) : (s.setCoef k j v).esr = s.esr := rfl
@[simp] theorem State.setCoef_overrun (k j : Nat) (v : Word) : (s.setCoef k j v).overrun = s.overrun := rfl
@[simp] theorem State.setCoef_underrun (k j : Nat) (v : Word) : (s.setCoef k j v).underrun = s.underrun := rfl
@[simp] theorem State.setCoef_satcnt (k j : Nat) (v : Word) : (s.setCoef k j v).satcnt = s.satcnt := rfl
@[simp] theorem State.setCoef_lock0 (k j : Nat) (v : Word) : (s.setCoef k j v).lock0 = s.lock0 := rfl
@[simp] theorem State.setCoef_lock1 (k j : Nat) (v : Word) : (s.setCoef k j v).lock1 = s.lock1 := rfl
@[simp] theorem State.setCoef_issuer (k j : Nat) (v : Word) : (s.setCoef k j v).issuer = s.issuer := rfl
@[simp] theorem State.setCoef_sched (k j : Nat) (v : Word) : (s.setCoef k j v).sched = s.sched := rfl
@[simp] theorem State.setCoef_core (k j : Nat) (v : Word) (q' : CorePort) : (s.setCoef k j v).core q' = s.core q' := rfl
@[simp] theorem State.setCoef_port (k j : Nat) (v : Word) (p' : Port) : (s.setCoef k j v).port p' = s.port p' := rfl

/-! ### setDelay -/

@[simp] theorem State.setDelay_cfg (c : Fin 2) (k : Nat) (d : Delay) : (s.setDelay c k d).cfg = s.cfg := rfl
@[simp] theorem State.setDelay_smp (c : Fin 2) (k : Nat) (d : Delay) : (s.setDelay c k d).smp = s.smp := rfl
@[simp] theorem State.setDelay_cnt (c : Fin 2) (k : Nat) (d : Delay) : (s.setDelay c k d).cnt = s.cnt := rfl
@[simp] theorem State.setDelay_own (c : Fin 2) (k : Nat) (d : Delay) : (s.setDelay c k d).own = s.own := rfl
@[simp] theorem State.setDelay_freeq (c : Fin 2) (k : Nat) (d : Delay) : (s.setDelay c k d).freeq = s.freeq := rfl
@[simp] theorem State.setDelay_outq (c : Fin 2) (k : Nat) (d : Delay) : (s.setDelay c k d).outq = s.outq := rfl
@[simp] theorem State.setDelay_coef (c : Fin 2) (k : Nat) (d : Delay) : (s.setDelay c k d).coef = s.coef := rfl
@[simp] theorem State.setDelay_eqEn (c : Fin 2) (k : Nat) (d : Delay) : (s.setDelay c k d).eqEn = s.eqEn := rfl
@[simp] theorem State.setDelay_coefDirty (c : Fin 2) (k : Nat) (d : Delay) : (s.setDelay c k d).coefDirty = s.coefDirty := rfl
@[simp] theorem State.setDelay_bar (c : Fin 2) (k : Nat) (d : Delay) : (s.setDelay c k d).bar = s.bar := rfl
@[simp] theorem State.setDelay_jobBuf (c : Fin 2) (k : Nat) (d : Delay) : (s.setDelay c k d).jobBuf = s.jobBuf := rfl
@[simp] theorem State.setDelay_goIe (c : Fin 2) (k : Nat) (d : Delay) : (s.setDelay c k d).goIe = s.goIe := rfl
@[simp] theorem State.setDelay_esr (c : Fin 2) (k : Nat) (d : Delay) : (s.setDelay c k d).esr = s.esr := rfl
@[simp] theorem State.setDelay_overrun (c : Fin 2) (k : Nat) (d : Delay) : (s.setDelay c k d).overrun = s.overrun := rfl
@[simp] theorem State.setDelay_underrun (c : Fin 2) (k : Nat) (d : Delay) : (s.setDelay c k d).underrun = s.underrun := rfl
@[simp] theorem State.setDelay_satcnt (c : Fin 2) (k : Nat) (d : Delay) : (s.setDelay c k d).satcnt = s.satcnt := rfl
@[simp] theorem State.setDelay_lock0 (c : Fin 2) (k : Nat) (d : Delay) : (s.setDelay c k d).lock0 = s.lock0 := rfl
@[simp] theorem State.setDelay_lock1 (c : Fin 2) (k : Nat) (d : Delay) : (s.setDelay c k d).lock1 = s.lock1 := rfl
@[simp] theorem State.setDelay_issuer (c : Fin 2) (k : Nat) (d : Delay) : (s.setDelay c k d).issuer = s.issuer := rfl
@[simp] theorem State.setDelay_sched (c : Fin 2) (k : Nat) (d : Delay) : (s.setDelay c k d).sched = s.sched := rfl
@[simp] theorem State.setDelay_core (c : Fin 2) (k : Nat) (d : Delay) (q' : CorePort) : (s.setDelay c k d).core q' = s.core q' := rfl
@[simp] theorem State.setDelay_port (c : Fin 2) (k : Nat) (d : Delay) (p' : Port) : (s.setDelay c k d).port p' = s.port p' := rfl

/-! ### zeroFilter -/

@[simp] theorem State.zeroFilter_cfg : (s.zeroFilter).cfg = s.cfg := rfl
@[simp] theorem State.zeroFilter_smp : (s.zeroFilter).smp = s.smp := rfl
@[simp] theorem State.zeroFilter_cnt : (s.zeroFilter).cnt = s.cnt := rfl
@[simp] theorem State.zeroFilter_own : (s.zeroFilter).own = s.own := rfl
@[simp] theorem State.zeroFilter_freeq : (s.zeroFilter).freeq = s.freeq := rfl
@[simp] theorem State.zeroFilter_outq : (s.zeroFilter).outq = s.outq := rfl
@[simp] theorem State.zeroFilter_coef : (s.zeroFilter).coef = s.coef := rfl
@[simp] theorem State.zeroFilter_eqEn : (s.zeroFilter).eqEn = s.eqEn := rfl
@[simp] theorem State.zeroFilter_coefDirty : (s.zeroFilter).coefDirty = s.coefDirty := rfl
@[simp] theorem State.zeroFilter_bar : (s.zeroFilter).bar = s.bar := rfl
@[simp] theorem State.zeroFilter_jobBuf : (s.zeroFilter).jobBuf = s.jobBuf := rfl
@[simp] theorem State.zeroFilter_goIe : (s.zeroFilter).goIe = s.goIe := rfl
@[simp] theorem State.zeroFilter_esr : (s.zeroFilter).esr = s.esr := rfl
@[simp] theorem State.zeroFilter_overrun : (s.zeroFilter).overrun = s.overrun := rfl
@[simp] theorem State.zeroFilter_underrun : (s.zeroFilter).underrun = s.underrun := rfl
@[simp] theorem State.zeroFilter_satcnt : (s.zeroFilter).satcnt = s.satcnt := rfl
@[simp] theorem State.zeroFilter_lock0 : (s.zeroFilter).lock0 = s.lock0 := rfl
@[simp] theorem State.zeroFilter_lock1 : (s.zeroFilter).lock1 = s.lock1 := rfl
@[simp] theorem State.zeroFilter_issuer : (s.zeroFilter).issuer = s.issuer := rfl
@[simp] theorem State.zeroFilter_sched : (s.zeroFilter).sched = s.sched := rfl
@[simp] theorem State.zeroFilter_core (q' : CorePort) : (s.zeroFilter).core q' = s.core q' := rfl
@[simp] theorem State.zeroFilter_port (p' : Port) : (s.zeroFilter).port p' = s.port p' := rfl

/-! ### setLock -/

@[simp] theorem State.setLock_cfg (c : Fin 2) (l : Option CorePort) : (s.setLock c l).cfg = s.cfg := rfl
@[simp] theorem State.setLock_smp (c : Fin 2) (l : Option CorePort) : (s.setLock c l).smp = s.smp := rfl
@[simp] theorem State.setLock_cnt (c : Fin 2) (l : Option CorePort) : (s.setLock c l).cnt = s.cnt := rfl
@[simp] theorem State.setLock_own (c : Fin 2) (l : Option CorePort) : (s.setLock c l).own = s.own := rfl
@[simp] theorem State.setLock_freeq (c : Fin 2) (l : Option CorePort) : (s.setLock c l).freeq = s.freeq := rfl
@[simp] theorem State.setLock_outq (c : Fin 2) (l : Option CorePort) : (s.setLock c l).outq = s.outq := rfl
@[simp] theorem State.setLock_coef (c : Fin 2) (l : Option CorePort) : (s.setLock c l).coef = s.coef := rfl
@[simp] theorem State.setLock_st0 (c : Fin 2) (l : Option CorePort) : (s.setLock c l).st0 = s.st0 := rfl
@[simp] theorem State.setLock_st1 (c : Fin 2) (l : Option CorePort) : (s.setLock c l).st1 = s.st1 := rfl
@[simp] theorem State.setLock_eqEn (c : Fin 2) (l : Option CorePort) : (s.setLock c l).eqEn = s.eqEn := rfl
@[simp] theorem State.setLock_coefDirty (c : Fin 2) (l : Option CorePort) : (s.setLock c l).coefDirty = s.coefDirty := rfl
@[simp] theorem State.setLock_bar (c : Fin 2) (l : Option CorePort) : (s.setLock c l).bar = s.bar := rfl
@[simp] theorem State.setLock_jobBuf (c : Fin 2) (l : Option CorePort) : (s.setLock c l).jobBuf = s.jobBuf := rfl
@[simp] theorem State.setLock_goIe (c : Fin 2) (l : Option CorePort) : (s.setLock c l).goIe = s.goIe := rfl
@[simp] theorem State.setLock_esr (c : Fin 2) (l : Option CorePort) : (s.setLock c l).esr = s.esr := rfl
@[simp] theorem State.setLock_overrun (c : Fin 2) (l : Option CorePort) : (s.setLock c l).overrun = s.overrun := rfl
@[simp] theorem State.setLock_underrun (c : Fin 2) (l : Option CorePort) : (s.setLock c l).underrun = s.underrun := rfl
@[simp] theorem State.setLock_satcnt (c : Fin 2) (l : Option CorePort) : (s.setLock c l).satcnt = s.satcnt := rfl
@[simp] theorem State.setLock_issuer (c : Fin 2) (l : Option CorePort) : (s.setLock c l).issuer = s.issuer := rfl
@[simp] theorem State.setLock_sched (c : Fin 2) (l : Option CorePort) : (s.setLock c l).sched = s.sched := rfl
@[simp] theorem State.setLock_core (c : Fin 2) (l : Option CorePort) (q' : CorePort) : (s.setLock c l).core q' = s.core q' := rfl
@[simp] theorem State.setLock_port (c : Fin 2) (l : Option CorePort) (p' : Port) : (s.setLock c l).port p' = s.port p' := rfl

end Sys2Proof.Machine
end

