-- ==== Sys2Proof/Laws/Table.lean ====
section
/-! SUPPORT. What a table operation can do: a read after a write to the same index gives the value written,
every other index reads as before, and the canonical form is kept. The read laws hold of every table. -/

namespace Sys2Proof.Machine

variable {α : Type}

theorem Table.look_place_same (d : Nat → α) (k : Nat) (v : α) (t : Table α) (h : ∀ e ∈ t, e.1 ≠ k) :
    Table.look d (Table.place k v t) k = v := by
  induction t with
  | nil => simp [Table.place, Table.look]
  | cons e t ih =>
    obtain ⟨k', v'⟩ := e
    have hk : k ≠ k' := fun hkk => h (k', v') (by simp) hkk.symm
    simp only [Table.place]
    split
    · simp [Table.look]
    · simpa [Table.look, hk] using ih fun e he => h e (by simp [he])

theorem Table.look_place_other (d : Nat → α) (k k' : Nat) (v : α) (t : Table α) (h : k' ≠ k) :
    Table.look d (Table.place k v t) k' = Table.look d t k' := by
  induction t with
  | nil => simp [Table.place, Table.look, h]
  | cons e t ih =>
    simp only [Table.place]
    split
    · simp [Table.look, h]
    · simp only [Table.look, ih]

theorem Table.look_erase_other (d : Nat → α) (k k' : Nat) (t : Table α) (h : k' ≠ k) :
    Table.look d (Table.erase t k) k' = Table.look d t k' := by
  induction t with
  | nil => rfl
  | cons e t ih =>
    unfold Table.erase at ih ⊢
    by_cases he : e.1 = k
    · simp [he, Table.look, h, ih]
    · simp [he, Table.look, ih]

theorem Table.look_erase_same (d : Nat → α) (k : Nat) (t : Table α) :
    Table.look d (Table.erase t k) k = d k := by
  induction t with
  | nil => rfl
  | cons e t ih =>
    unfold Table.erase at ih ⊢
    by_cases he : e.1 = k
    · simp [he, ih]
    · simp [he, Table.look, ih, Ne.symm he]

/-- A read after a write. -/
theorem Table.look_store [DecidableEq α] (d : Nat → α) (t : Table α) (k k' : Nat) (v : α) :
    Table.look d (Table.store d t k v) k' = if k' = k then v else Table.look d t k' := by
  unfold Table.store
  split <;> split
  · next hv hk => rw [hk, Table.look_erase_same, hv]
  · next hv hk => exact Table.look_erase_other d k k' t hk
  · next hv hk =>
    rw [hk]
    exact Table.look_place_same d k v _ (by simp [Table.erase])
  · next hv hk => rw [Table.look_place_other d k k' v _ hk, Table.look_erase_other d k k' t hk]

theorem Table.mem_place (k : Nat) (v : α) (t : Table α) (e : Nat × α) :
    e ∈ Table.place k v t ↔ e = (k, v) ∨ e ∈ t := by
  induction t with
  | nil => simp [Table.place]
  | cons e' t ih =>
    simp only [Table.place]
    split
    · simp
    · simp only [List.mem_cons, ih]; tauto

theorem Table.wf_erase [DecidableEq α] (d : Nat → α) (t : Table α) (k : Nat) (h : Table.wf d t = true) :
    Table.wf d (Table.erase t k) = true := by
  induction t with
  | nil => rfl
  | cons e t ih =>
    simp only [Table.wf, Bool.and_eq_true, List.all_eq_true] at h
    have ih' := ih h.2
    unfold Table.erase at ih' ⊢
    by_cases he : e.1 = k
    · simpa [he] using ih'
    · rw [List.filter_cons_of_pos (by simp [he])]
      simp only [Table.wf, Bool.and_eq_true, List.all_eq_true]
      exact ⟨⟨h.1.1, fun x hx => h.1.2 x (List.mem_filter.mp hx).1⟩, ih'⟩

theorem Table.wf_place [DecidableEq α] (d : Nat → α) (t : Table α) (k : Nat) (v : α) (hv : v ≠ d k)
    (hk : ∀ e ∈ t, e.1 ≠ k) (h : Table.wf d t = true) : Table.wf d (Table.place k v t) = true := by
  induction t with
  | nil => simp [Table.place, Table.wf, hv]
  | cons e t ih =>
    have ht := ih (fun x hx => hk x (by simp [hx]))
    simp only [Table.wf, Bool.and_eq_true, List.all_eq_true, decide_eq_true_eq] at h
    have hek := hk e (by simp)
    simp only [Table.place]
    split
    · next hlt =>
      simp only [Table.wf, Bool.and_eq_true, List.all_eq_true, decide_eq_true_eq]
      refine ⟨⟨by simp [hv], ?_⟩, h⟩
      intro x hx
      rcases List.mem_cons.mp hx with rfl | hx
      · exact hlt
      · exact Nat.lt_trans hlt (h.1.2 x hx)
    · next hge =>
      simp only [Table.wf, Bool.and_eq_true, List.all_eq_true, decide_eq_true_eq]
      refine ⟨⟨h.1.1, ?_⟩, ht h.2⟩
      intro x hx
      rcases (Table.mem_place k v t x).mp hx with rfl | hx
      · exact Nat.lt_of_le_of_ne (Nat.le_of_not_lt hge) hek
      · exact h.1.2 x hx

/-- A write keeps the canonical form. -/
theorem Table.wf_store [DecidableEq α] (d : Nat → α) (t : Table α) (k : Nat) (v : α)
    (h : Table.wf d t = true) : Table.wf d (Table.store d t k v) = true := by
  unfold Table.store
  split
  · exact Table.wf_erase d t k h
  · next hv => exact Table.wf_place d _ k v hv (by simp [Table.erase]) (Table.wf_erase d t k h)

theorem Table.mem_of_mem_erase {t : Table α} {k : Nat} {e : Nat × α} (h : e ∈ Table.erase t k) : e ∈ t :=
  (List.mem_filter.mp h).1

theorem Table.mem_store [DecidableEq α] {d : Nat → α} {t : Table α} {k : Nat} {v : α} {e : Nat × α}
    (h : e ∈ Table.store d t k v) : e = (k, v) ∨ e ∈ t := by
  unfold Table.store at h
  split at h
  · exact .inr (Table.mem_of_mem_erase h)
  · rcases (Table.mem_place k v _ e).mp h with h | h
    · exact .inl h
    · exact .inr (Table.mem_of_mem_erase h)

/-- A value that is read is listed, or is what an unlisted index reads as. -/
theorem Table.look_mem (d : Nat → α) (t : Table α) (k : Nat) :
    (k, Table.look d t k) ∈ t ∨ Table.look d t k = d k := by
  induction t with
  | nil => exact .inr rfl
  | cons e t ih =>
    obtain ⟨k', v'⟩ := e
    by_cases h : k = k'
    · left; simp [Table.look, h]
    · rcases ih with ih | ih
      · left; simp [Table.look, h, ih]
      · right; simpa [Table.look, h] using ih

end Sys2Proof.Machine
end

