-- ==== Sys2Proof/Laws/Ops.lean ====
section
/-! SUPPORT. What each named operation does to what each accessor reads: first the accessor an operation is
about, then, generated one by one, the accessors it leaves alone. -/

namespace Sys2Proof.Machine

open Sys2Proof

variable (s : State)

/-! ### Ports and core ports -/

@[simp] theorem State.port_setPort (p : Port) (ps : PortState) (p' : Port) :
    (s.setPort p ps).port p' = if p' = p then ps else s.port p' := by
  cases p <;> cases p' <;> rfl

@[simp] theorem State.core_setCore (q : CorePort) (cs : CoreState) (q' : CorePort) :
    (s.setCore q cs).core q' = if q' = q then cs else s.core q' := by
  cases q <;> cases q' <;> rfl

@[simp] theorem State.reg_setReg (p : Port) (r : Reg) (v : Word) (p' : Port) (r' : Reg) :
    (s.setReg p r v).reg p' r' = if p' = p ∧ r' = r then v else s.reg p' r' := by
  by_cases hp : p' = p
  · subst hp
    by_cases hr : r' = r
    · subst hr; simp [State.reg, State.setReg]
    · have hv : r.val ≠ r'.val := fun h => hr (Fin.ext h.symm)
      simp [State.reg, State.setReg, hr, hv]
  · simp [State.reg, State.setReg, hp]

@[simp] theorem State.reg_respond (p : Port) (c : Cond) (v : Word) (p' : Port) (r' : Reg) :
    (s.respond p c v).reg p' r' = s.reg p' r' := by
  by_cases hp : p' = p
  · subst hp; simp [State.reg, State.respond]
  · simp [State.reg, State.respond, hp]

@[simp] theorem State.reg_raiseQf (p p' : Port) (r' : Reg) : (s.raiseQf p).reg p' r' = s.reg p' r' := by
  by_cases hp : p' = p
  · subst hp; simp [State.reg, State.raiseQf]
  · simp [State.reg, State.raiseQf, hp]

@[simp] theorem State.reg_clearQf (p p' : Port) (r' : Reg) : (s.clearQf p).reg p' r' = s.reg p' r' := by
  by_cases hp : p' = p
  · subst hp; simp [State.reg, State.clearQf]
  · simp [State.reg, State.clearQf, hp]

/-- A register write leaves the other fields of its port. -/
theorem State.port_setReg (p : Port) (r : Reg) (v : Word) (p' : Port) :
    (s.setReg p r v).port p' =
      if p' = p then { s.port p with x := (s.port p).x.set r.val v } else s.port p' := by
  simp [State.setReg]

/-- Everything a response does to the ports. -/
theorem State.port_respond (p : Port) (c : Cond) (v : Word) (p' : Port) :
    (s.respond p c v).port p' =
      if p' = p then
        { s.port p with
          status := { (s.port p).status with cond := c }
          cp := (s.port p).cp + 1
          outstanding := none
          resp := some { cond := c, rdata := v } }
      else s.port p' := by
  simp [State.respond]

theorem State.port_raiseQf (p p' : Port) :
    (s.raiseQf p).port p' =
      if p' = p then { s.port p with status := { (s.port p).status with qf := true } } else s.port p' := by
  simp [State.raiseQf]

theorem State.port_clearQf (p p' : Port) :
    (s.clearQf p).port p' =
      if p' = p then { s.port p with status := { (s.port p).status with qf := false } } else s.port p' := by
  simp [State.clearQf]

@[simp] theorem State.engine_setEngine (q : CorePort) (e : Engine) (q' : CorePort) :
    (s.setEngine q e).engine q' = if q' = q then e else s.engine q' := by
  by_cases h : q' = q <;> simp [State.engine, State.setEngine, h]

@[simp] theorem State.wb_setEngine (q : CorePort) (e : Engine) (q' : CorePort) :
    (s.setEngine q e).wb q' = s.wb q' := by
  by_cases h : q' = q
  · subst h; simp [State.wb, State.setEngine]
  · simp [State.wb, State.setEngine, h]

@[simp] theorem State.wb_setWb (q : CorePort) (w : List Posted) (q' : CorePort) :
    (s.setWb q w).wb q' = if q' = q then w else s.wb q' := by
  by_cases h : q' = q <;> simp [State.wb, State.setWb, h]

@[simp] theorem State.engine_setWb (q : CorePort) (w : List Posted) (q' : CorePort) :
    (s.setWb q w).engine q' = s.engine q' := by
  by_cases h : q' = q
  · subst h; simp [State.engine, State.setWb]
  · simp [State.engine, State.setWb, h]

/-! ### The operation of each memory -/

@[simp] theorem State.ownOf_setOwn (b : Nat) (o : Own) (b' : Nat) :
    (s.setOwn b o).ownOf b' = if b' = b then o else s.ownOf b' :=
  Table.look_store _ _ _ _ _

@[simp] theorem State.cntOf_setCnt (b n b' : Nat) :
    (s.setCnt b n).cntOf b' = if b' = b then n else s.cntOf b' :=
  Table.look_store _ _ _ _ _

@[simp] theorem State.smpAt_setSmp (b i : Nat) (v : Half) (b' i' : Nat) :
    (s.setSmp b i v).smpAt b' i' = if b' = b ∧ i' = i then v else s.smpAt b' i' := by
  simp only [State.smpAt, State.setSmp, Table.look_store]
  by_cases hb : b' = b
  · subst hb; simp [Table.look_store]
  · simp [hb]

@[simp] theorem State.coefsAt_setCoef (k j : Nat) (v : Word) (k' : Nat) :
    (s.setCoef k j v).coefsAt k' = if k' = k then (s.coefsAt k).setWord j v else s.coefsAt k' :=
  Table.look_store _ _ _ _ _

/-- For the five indices a band has (R34). -/
theorem State.coefAt_setCoef (k j : Nat) (v : Word) (k' j' : Nat) (hj : j < 5) :
    (s.setCoef k j v).coefAt k' j' = if k' = k ∧ j' = j then v else s.coefAt k' j' := by
  simp only [State.coefAt, State.coefsAt_setCoef]
  by_cases hk : k' = k
  · subst hk
    simp only [if_true, true_and]
    rcases j with _ | _ | _ | _ | _ | j <;> try omega
    all_goals rcases j' with _ | _ | _ | _ | _ | j' <;> simp [Coefs.word, Coefs.setWord]
  · simp [hk]

@[simp] theorem State.delayAt_setDelay (c : Fin 2) (k : Nat) (d : Delay) (c' : Fin 2) (k' : Nat) :
    (s.setDelay c k d).delayAt c' k' = if c' = c ∧ k' = k then d else s.delayAt c' k' := by
  fin_cases c <;> fin_cases c' <;> simp [State.delayAt, State.setDelay, Table.look_store]

@[simp] theorem State.delayAt_zeroFilter (c : Fin 2) (k : Nat) : s.zeroFilter.delayAt c k = Delay.zero := by
  fin_cases c <;> rfl

@[simp] theorem Delay.word_zero (j : Nat) : Delay.zero.word j = 0 := by
  rcases j with _ | _ | _ | _ | j <;> rfl

@[simp] theorem State.stAt_zeroFilter (c : Fin 2) (k j : Nat) : s.zeroFilter.stAt c k j = 0 := by
  simp [State.stAt]

@[simp] theorem State.lockOf_setLock (c : Fin 2) (l : Option CorePort) (c' : Fin 2) :
    (s.setLock c l).lockOf c' = if c' = c then l else s.lockOf c' := by
  fin_cases c <;> fin_cases c' <;> simp [State.lockOf, State.setLock]

/-! ### The shared operations of the meanings -/

/-- What an evaluation can do (R12, R246): reject with the first check that fails, hold, or take effect. -/
theorem State.evaluate_cases {checks : List (SubCause × Bool)} {hold : Bool} {u t : State}
    (h : s.evaluate checks hold u = .next t) :
    (∃ c, firstFailed checks = some c ∧ t = s.reject c) ∨
      (firstFailed checks = none ∧ hold = true ∧ t = s) ∨
      (firstFailed checks = none ∧ hold = false ∧ t = u) := by
  unfold State.evaluate at h
  split at h
  · next c hc => exact .inl ⟨c, hc, by simpa using h.symm⟩
  · next hc =>
    cases hold
    · exact .inr (.inr ⟨hc, rfl, by simpa using h.symm⟩)
    · exact .inr (.inl ⟨hc, rfl, by simpa using h.symm⟩)

/-- An evaluation always answers a next state (R250). -/
theorem State.evaluate_next (checks : List (SubCause × Bool)) (hold : Bool) (u : State) :
    ∃ t, s.evaluate checks hold u = .next t := by
  unfold State.evaluate
  split
  · exact ⟨_, rfl⟩
  · split <;> exact ⟨_, rfl⟩

@[simp] theorem firstFailed_nil : firstFailed [] = none := rfl

@[simp] theorem firstFailed_cons (c : SubCause) (b : Bool) (l : List (SubCause × Bool)) :
    firstFailed ((c, b) :: l) = if b then firstFailed l else some c := rfl

/-- What a posted command can do (R70): append its entries, or write them in order. -/
theorem State.post_cases (q : CorePort) (es : List Posted) :
    (Params.postable s.cfg es.length = true ∧ s.post q es = s.setWb q (s.wb q ++ es)) ∨
      (Params.postable s.cfg es.length = false ∧ s.post q es = es.foldl State.commitPosted s) := by
  unfold State.post
  cases h : Params.postable s.cfg es.length <;> simp

/-- What a drained entry writes (R71). -/
@[simp] theorem State.commitPosted_smp (b i : Nat) (v : Half) :
    s.commitPosted (.smp b i v) = s.setSmp b i v := rfl

@[simp] theorem State.commitPosted_coef (k j : Nat) (v : Word) :
    s.commitPosted (.coef k j v) = s.setCoef k j v := rfl

/-- What an arithmetic completion can do (R130). -/
theorem State.answerClamped_cases (rd : Reg) (r : Int × Bool) :
    (r.2 = true ∧ s.answerClamped rd r = s.saturate rd (w32 r.1)) ∨
      (r.2 = false ∧ s.answerClamped rd r = s.answer rd (w32 r.1)) := by
  unfold State.answerClamped
  cases h : r.2 <;> simp

/-- A clamped number is inside the bounds, and is the number itself unless it lay outside (R15). -/
theorem clampTo_spec (lo hi n : Int) (h : lo ≤ hi) :
    lo ≤ (clampTo lo hi n).1 ∧ (clampTo lo hi n).1 ≤ hi ∧
      ((clampTo lo hi n).2 = false → (clampTo lo hi n).1 = n) ∧
      ((clampTo lo hi n).2 = true → (clampTo lo hi n).1 = lo ∨ (clampTo lo hi n).1 = hi) := by
  simp only [clampTo, decide_eq_false_iff_not, decide_eq_true_eq]
  omega

/-- A word holds every number of its range (R15). -/
theorem s32_w32 (n : Int) (h : -2147483648 ≤ n) (h' : n ≤ 2147483647) : s32 (w32 n) = n := by
  simp only [s32, w32, BitVec.toInt_ofInt]
  exact Int.bmod_eq_of_le (by norm_num; omega) (by norm_num; omega)

/-! ### ownOf -/

@[simp] theorem State.ownOf_setPort (p : Port) (ps : PortState) (b' : Nat) :
    (s.setPort p ps).ownOf b' = s.ownOf b' := rfl
@[simp] theorem State.ownOf_setReg (p : Port) (r : Reg) (v : Word) (b' : Nat) :
    (s.setReg p r v).ownOf b' = s.ownOf b' := rfl
@[simp] theorem State.ownOf_respond (p : Port) (c : Cond) (v : Word) (b' : Nat) :
    (s.respond p c v).ownOf b' = s.ownOf b' := rfl
@[simp] theorem State.ownOf_raiseQf (p : Port) (b' : Nat) :
    (s.raiseQf p).ownOf b' = s.ownOf b' := rfl
@[simp] theorem State.ownOf_clearQf (p : Port) (b' : Nat) :
    (s.clearQf p).ownOf b' = s.ownOf b' := rfl
@[simp] theorem State.ownOf_setCore (q : CorePort) (cs : CoreState) (b' : Nat) :
    (s.setCore q cs).ownOf b' = s.ownOf b' := rfl
@[simp] theorem State.ownOf_setEngine (q : CorePort) (e : Engine) (b' : Nat) :
    (s.setEngine q e).ownOf b' = s.ownOf b' := rfl
@[simp] theorem State.ownOf_setWb (q : CorePort) (w : List Posted) (b' : Nat) :
    (s.setWb q w).ownOf b' = s.ownOf b' := rfl
@[simp] theorem State.ownOf_setCnt (b n : Nat) (b' : Nat) :
    (s.setCnt b n).ownOf b' = s.ownOf b' := rfl
@[simp] theorem State.ownOf_setSmp (b i : Nat) (v : Half) (b' : Nat) :
    (s.setSmp b i v).ownOf b' = s.ownOf b' := rfl
@[simp] theorem State.ownOf_setCoef (k j : Nat) (v : Word) (b' : Nat) :
    (s.setCoef k j v).ownOf b' = s.ownOf b' := rfl
@[simp] theorem State.ownOf_setDelay (c : Fin 2) (k : Nat) (d : Delay) (b' : Nat) :
    (s.setDelay c k d).ownOf b' = s.ownOf b' := rfl
@[simp] theorem State.ownOf_zeroFilter (b' : Nat) :
    (s.zeroFilter).ownOf b' = s.ownOf b' := rfl
@[simp] theorem State.ownOf_setLock (c : Fin 2) (l : Option CorePort) (b' : Nat) :
    (s.setLock c l).ownOf b' = s.ownOf b' := rfl

/-! ### cntOf -/

@[simp] theorem State.cntOf_setPort (p : Port) (ps : PortState) (b' : Nat) :
    (s.setPort p ps).cntOf b' = s.cntOf b' := rfl
@[simp] theorem State.cntOf_setReg (p : Port) (r : Reg) (v : Word) (b' : Nat) :
    (s.setReg p r v).cntOf b' = s.cntOf b' := rfl
@[simp] theorem State.cntOf_respond (p : Port) (c : Cond) (v : Word) (b' : Nat) :
    (s.respond p c v).cntOf b' = s.cntOf b' := rfl
@[simp] theorem State.cntOf_raiseQf (p : Port) (b' : Nat) :
    (s.raiseQf p).cntOf b' = s.cntOf b' := rfl
@[simp] theorem State.cntOf_clearQf (p : Port) (b' : Nat) :
    (s.clearQf p).cntOf b' = s.cntOf b' := rfl
@[simp] theorem State.cntOf_setCore (q : CorePort) (cs : CoreState) (b' : Nat) :
    (s.setCore q cs).cntOf b' = s.cntOf b' := rfl
@[simp] theorem State.cntOf_setEngine (q : CorePort) (e : Engine) (b' : Nat) :
    (s.setEngine q e).cntOf b' = s.cntOf b' := rfl
@[simp] theorem State.cntOf_setWb (q : CorePort) (w : List Posted) (b' : Nat) :
    (s.setWb q w).cntOf b' = s.cntOf b' := rfl
@[simp] theorem State.cntOf_setOwn (b : Nat) (o : Own) (b' : Nat) :
    (s.setOwn b o).cntOf b' = s.cntOf b' := rfl
@[simp] theorem State.cntOf_setSmp (b i : Nat) (v : Half) (b' : Nat) :
    (s.setSmp b i v).cntOf b' = s.cntOf b' := rfl
@[simp] theorem State.cntOf_setCoef (k j : Nat) (v : Word) (b' : Nat) :
    (s.setCoef k j v).cntOf b' = s.cntOf b' := rfl
@[simp] theorem State.cntOf_setDelay (c : Fin 2) (k : Nat) (d : Delay) (b' : Nat) :
    (s.setDelay c k d).cntOf b' = s.cntOf b' := rfl
@[simp] theorem State.cntOf_zeroFilter (b' : Nat) :
    (s.zeroFilter).cntOf b' = s.cntOf b' := rfl
@[simp] theorem State.cntOf_setLock (c : Fin 2) (l : Option CorePort) (b' : Nat) :
    (s.setLock c l).cntOf b' = s.cntOf b' := rfl

/-! ### smpAt -/

@[simp] theorem State.smpAt_setPort (p : Port) (ps : PortState) (b' i' : Nat) :
    (s.setPort p ps).smpAt b' i' = s.smpAt b' i' := rfl
@[simp] theorem State.smpAt_setReg (p : Port) (r : Reg) (v : Word) (b' i' : Nat) :
    (s.setReg p r v).smpAt b' i' = s.smpAt b' i' := rfl
@[simp] theorem State.smpAt_respond (p : Port) (c : Cond) (v : Word) (b' i' : Nat) :
    (s.respond p c v).smpAt b' i' = s.smpAt b' i' := rfl
@[simp] theorem State.smpAt_raiseQf (p : Port) (b' i' : Nat) :
    (s.raiseQf p).smpAt b' i' = s.smpAt b' i' := rfl
@[simp] theorem State.smpAt_clearQf (p : Port) (b' i' : Nat) :
    (s.clearQf p).smpAt b' i' = s.smpAt b' i' := rfl
@[simp] theorem State.smpAt_setCore (q : CorePort) (cs : CoreState) (b' i' : Nat) :
    (s.setCore q cs).smpAt b' i' = s.smpAt b' i' := rfl
@[simp] theorem State.smpAt_setEngine (q : CorePort) (e : Engine) (b' i' : Nat) :
    (s.setEngine q e).smpAt b' i' = s.smpAt b' i' := rfl
@[simp] theorem State.smpAt_setWb (q : CorePort) (w : List Posted) (b' i' : Nat) :
    (s.setWb q w).smpAt b' i' = s.smpAt b' i' := rfl
@[simp] theorem State.smpAt_setOwn (b : Nat) (o : Own) (b' i' : Nat) :
    (s.setOwn b o).smpAt b' i' = s.smpAt b' i' := rfl
@[simp] theorem State.smpAt_setCnt (b n : Nat) (b' i' : Nat) :
    (s.setCnt b n).smpAt b' i' = s.smpAt b' i' := rfl
@[simp] theorem State.smpAt_setCoef (k j : Nat) (v : Word) (b' i' : Nat) :
    (s.setCoef k j v).smpAt b' i' = s.smpAt b' i' := rfl
@[simp] theorem State.smpAt_setDelay (c : Fin 2) (k : Nat) (d : Delay) (b' i' : Nat) :
    (s.setDelay c k d).smpAt b' i' = s.smpAt b' i' := rfl
@[simp] theorem State.smpAt_zeroFilter (b' i' : Nat) :
    (s.zeroFilter).smpAt b' i' = s.smpAt b' i' := rfl
@[simp] theorem State.smpAt_setLock (c : Fin 2) (l : Option CorePort) (b' i' : Nat) :
    (s.setLock c l).smpAt b' i' = s.smpAt b' i' := rfl

/-! ### coefsAt -/

@[simp] theorem State.coefsAt_setPort (p : Port) (ps : PortState) (k' : Nat) :
    (s.setPort p ps).coefsAt k' = s.coefsAt k' := rfl
@[simp] theorem State.coefsAt_setReg (p : Port) (r : Reg) (v : Word) (k' : Nat) :
    (s.setReg p r v).coefsAt k' = s.coefsAt k' := rfl
@[simp] theorem State.coefsAt_respond (p : Port) (c : Cond) (v : Word) (k' : Nat) :
    (s.respond p c v).coefsAt k' = s.coefsAt k' := rfl
@[simp] theorem State.coefsAt_raiseQf (p : Port) (k' : Nat) :
    (s.raiseQf p).coefsAt k' = s.coefsAt k' := rfl
@[simp] theorem State.coefsAt_clearQf (p : Port) (k' : Nat) :
    (s.clearQf p).coefsAt k' = s.coefsAt k' := rfl
@[simp] theorem State.coefsAt_setCore (q : CorePort) (cs : CoreState) (k' : Nat) :
    (s.setCore q cs).coefsAt k' = s.coefsAt k' := rfl
@[simp] theorem State.coefsAt_setEngine (q : CorePort) (e : Engine) (k' : Nat) :
    (s.setEngine q e).coefsAt k' = s.coefsAt k' := rfl
@[simp] theorem State.coefsAt_setWb (q : CorePort) (w : List Posted) (k' : Nat) :
    (s.setWb q w).coefsAt k' = s.coefsAt k' := rfl
@[simp] theorem State.coefsAt_setOwn (b : Nat) (o : Own) (k' : Nat) :
    (s.setOwn b o).coefsAt k' = s.coefsAt k' := rfl
@[simp] theorem State.coefsAt_setCnt (b n : Nat) (k' : Nat) :
    (s.setCnt b n).coefsAt k' = s.coefsAt k' := rfl
@[simp] theorem State.coefsAt_setSmp (b i : Nat) (v : Half) (k' : Nat) :
    (s.setSmp b i v).coefsAt k' = s.coefsAt k' := rfl
@[simp] theorem State.coefsAt_setDelay (c : Fin 2) (k : Nat) (d : Delay) (k' : Nat) :
    (s.setDelay c k d).coefsAt k' = s.coefsAt k' := rfl
@[simp] theorem State.coefsAt_zeroFilter (k' : Nat) :
    (s.zeroFilter).coefsAt k' = s.coefsAt k' := rfl
@[simp] theorem State.coefsAt_setLock (c : Fin 2) (l : Option CorePort) (k' : Nat) :
    (s.setLock c l).coefsAt k' = s.coefsAt k' := rfl

/-! ### delayAt -/

@[simp] theorem State.delayAt_setPort (p : Port) (ps : PortState) (c' : Fin 2) (k' : Nat) :
    (s.setPort p ps).delayAt c' k' = s.delayAt c' k' := rfl
@[simp] theorem State.delayAt_setReg (p : Port) (r : Reg) (v : Word) (c' : Fin 2) (k' : Nat) :
    (s.setReg p r v).delayAt c' k' = s.delayAt c' k' := rfl
@[simp] theorem State.delayAt_respond (p : Port) (c : Cond) (v : Word) (c' : Fin 2) (k' : Nat) :
    (s.respond p c v).delayAt c' k' = s.delayAt c' k' := rfl
@[simp] theorem State.delayAt_raiseQf (p : Port) (c' : Fin 2) (k' : Nat) :
    (s.raiseQf p).delayAt c' k' = s.delayAt c' k' := rfl
@[simp] theorem State.delayAt_clearQf (p : Port) (c' : Fin 2) (k' : Nat) :
    (s.clearQf p).delayAt c' k' = s.delayAt c' k' := rfl
@[simp] theorem State.delayAt_setCore (q : CorePort) (cs : CoreState) (c' : Fin 2) (k' : Nat) :
    (s.setCore q cs).delayAt c' k' = s.delayAt c' k' := rfl
@[simp] theorem State.delayAt_setEngine (q : CorePort) (e : Engine) (c' : Fin 2) (k' : Nat) :
    (s.setEngine q e).delayAt c' k' = s.delayAt c' k' := rfl
@[simp] theorem State.delayAt_setWb (q : CorePort) (w : List Posted) (c' : Fin 2) (k' : Nat) :
    (s.setWb q w).delayAt c' k' = s.delayAt c' k' := rfl
@[simp] theorem State.delayAt_setOwn (b : Nat) (o : Own) (c' : Fin 2) (k' : Nat) :
    (s.setOwn b o).delayAt c' k' = s.delayAt c' k' := rfl
@[simp] theorem State.delayAt_setCnt (b n : Nat) (c' : Fin 2) (k' : Nat) :
    (s.setCnt b n).delayAt c' k' = s.delayAt c' k' := rfl
@[simp] theorem State.delayAt_setSmp (b i : Nat) (v : Half) (c' : Fin 2) (k' : Nat) :
    (s.setSmp b i v).delayAt c' k' = s.delayAt c' k' := rfl
@[simp] theorem State.delayAt_setCoef (k j : Nat) (v : Word) (c' : Fin 2) (k' : Nat) :
    (s.setCoef k j v).delayAt c' k' = s.delayAt c' k' := rfl
@[simp] theorem State.delayAt_setLock (c : Fin 2) (l : Option CorePort) (c' : Fin 2) (k' : Nat) :
    (s.setLock c l).delayAt c' k' = s.delayAt c' k' := rfl

/-! ### lockOf -/

@[simp] theorem State.lockOf_setPort (p : Port) (ps : PortState) (c' : Fin 2) :
    (s.setPort p ps).lockOf c' = s.lockOf c' := rfl
@[simp] theorem State.lockOf_setReg (p : Port) (r : Reg) (v : Word) (c' : Fin 2) :
    (s.setReg p r v).lockOf c' = s.lockOf c' := rfl
@[simp] theorem State.lockOf_respond (p : Port) (c : Cond) (v : Word) (c' : Fin 2) :
    (s.respond p c v).lockOf c' = s.lockOf c' := rfl
@[simp] theorem State.lockOf_raiseQf (p : Port) (c' : Fin 2) :
    (s.raiseQf p).lockOf c' = s.lockOf c' := rfl
@[simp] theorem State.lockOf_clearQf (p : Port) (c' : Fin 2) :
    (s.clearQf p).lockOf c' = s.lockOf c' := rfl
@[simp] theorem State.lockOf_setCore (q : CorePort) (cs : CoreState) (c' : Fin 2) :
    (s.setCore q cs).lockOf c' = s.lockOf c' := rfl
@[simp] theorem State.lockOf_setEngine (q : CorePort) (e : Engine) (c' : Fin 2) :
    (s.setEngine q e).lockOf c' = s.lockOf c' := rfl
@[simp] theorem State.lockOf_setWb (q : CorePort) (w : List Posted) (c' : Fin 2) :
    (s.setWb q w).lockOf c' = s.lockOf c' := rfl
@[simp] theorem State.lockOf_setOwn (b : Nat) (o : Own) (c' : Fin 2) :
    (s.setOwn b o).lockOf c' = s.lockOf c' := rfl
@[simp] theorem State.lockOf_setCnt (b n : Nat) (c' : Fin 2) :
    (s.setCnt b n).lockOf c' = s.lockOf c' := rfl
@[simp] theorem State.lockOf_setSmp (b i : Nat) (v : Half) (c' : Fin 2) :
    (s.setSmp b i v).lockOf c' = s.lockOf c' := rfl
@[simp] theorem State.lockOf_setCoef (k j : Nat) (v : Word) (c' : Fin 2) :
    (s.setCoef k j v).lockOf c' = s.lockOf c' := rfl
@[simp] theorem State.lockOf_setDelay (c : Fin 2) (k : Nat) (d : Delay) (c' : Fin 2) :
    (s.setDelay c k d).lockOf c' = s.lockOf c' := rfl
@[simp] theorem State.lockOf_zeroFilter (c' : Fin 2) :
    (s.zeroFilter).lockOf c' = s.lockOf c' := rfl

/-! ### engine -/

@[simp] theorem State.engine_setPort (p : Port) (ps : PortState) (q' : CorePort) :
    (s.setPort p ps).engine q' = s.engine q' := rfl
@[simp] theorem State.engine_setReg (p : Port) (r : Reg) (v : Word) (q' : CorePort) :
    (s.setReg p r v).engine q' = s.engine q' := rfl
@[simp] theorem State.engine_respond (p : Port) (c : Cond) (v : Word) (q' : CorePort) :
    (s.respond p c v).engine q' = s.engine q' := rfl
@[simp] theorem State.engine_raiseQf (p : Port) (q' : CorePort) :
    (s.raiseQf p).engine q' = s.engine q' := rfl
@[simp] theorem State.engine_clearQf (p : Port) (q' : CorePort) :
    (s.clearQf p).engine q' = s.engine q' := rfl
@[simp] theorem State.engine_setOwn (b : Nat) (o : Own) (q' : CorePort) :
    (s.setOwn b o).engine q' = s.engine q' := rfl
@[simp] theorem State.engine_setCnt (b n : Nat) (q' : CorePort) :
    (s.setCnt b n).engine q' = s.engine q' := rfl
@[simp] theorem State.engine_setSmp (b i : Nat) (v : Half) (q' : CorePort) :
    (s.setSmp b i v).engine q' = s.engine q' := rfl
@[simp] theorem State.engine_setCoef (k j : Nat) (v : Word) (q' : CorePort) :
    (s.setCoef k j v).engine q' = s.engine q' := rfl
@[simp] theorem State.engine_setDelay (c : Fin 2) (k : Nat) (d : Delay) (q' : CorePort) :
    (s.setDelay c k d).engine q' = s.engine q' := rfl
@[simp] theorem State.engine_zeroFilter (q' : CorePort) :
    (s.zeroFilter).engine q' = s.engine q' := rfl
@[simp] theorem State.engine_setLock (c : Fin 2) (l : Option CorePort) (q' : CorePort) :
    (s.setLock c l).engine q' = s.engine q' := rfl

/-! ### wb -/

@[simp] theorem State.wb_setPort (p : Port) (ps : PortState) (q' : CorePort) :
    (s.setPort p ps).wb q' = s.wb q' := rfl
@[simp] theorem State.wb_setReg (p : Port) (r : Reg) (v : Word) (q' : CorePort) :
    (s.setReg p r v).wb q' = s.wb q' := rfl
@[simp] theorem State.wb_respond (p : Port) (c : Cond) (v : Word) (q' : CorePort) :
    (s.respond p c v).wb q' = s.wb q' := rfl
@[simp] theorem State.wb_raiseQf (p : Port) (q' : CorePort) :
    (s.raiseQf p).wb q' = s.wb q' := rfl
@[simp] theorem State.wb_clearQf (p : Port) (q' : CorePort) :
    (s.clearQf p).wb q' = s.wb q' := rfl
@[simp] theorem State.wb_setOwn (b : Nat) (o : Own) (q' : CorePort) :
    (s.setOwn b o).wb q' = s.wb q' := rfl
@[simp] theorem State.wb_setCnt (b n : Nat) (q' : CorePort) :
    (s.setCnt b n).wb q' = s.wb q' := rfl
@[simp] theorem State.wb_setSmp (b i : Nat) (v : Half) (q' : CorePort) :
    (s.setSmp b i v).wb q' = s.wb q' := rfl
@[simp] theorem State.wb_setCoef (k j : Nat) (v : Word) (q' : CorePort) :
    (s.setCoef k j v).wb q' = s.wb q' := rfl
@[simp] theorem State.wb_setDelay (c : Fin 2) (k : Nat) (d : Delay) (q' : CorePort) :
    (s.setDelay c k d).wb q' = s.wb q' := rfl
@[simp] theorem State.wb_zeroFilter (q' : CorePort) :
    (s.zeroFilter).wb q' = s.wb q' := rfl
@[simp] theorem State.wb_setLock (c : Fin 2) (l : Option CorePort) (q' : CorePort) :
    (s.setLock c l).wb q' = s.wb q' := rfl

/-! ### reg -/

@[simp] theorem State.reg_setCore (q : CorePort) (cs : CoreState) (p' : Port) (r' : Reg) :
    (s.setCore q cs).reg p' r' = s.reg p' r' := rfl
@[simp] theorem State.reg_setEngine (q : CorePort) (e : Engine) (p' : Port) (r' : Reg) :
    (s.setEngine q e).reg p' r' = s.reg p' r' := rfl
@[simp] theorem State.reg_setWb (q : CorePort) (w : List Posted) (p' : Port) (r' : Reg) :
    (s.setWb q w).reg p' r' = s.reg p' r' := rfl
@[simp] theorem State.reg_setOwn (b : Nat) (o : Own) (p' : Port) (r' : Reg) :
    (s.setOwn b o).reg p' r' = s.reg p' r' := rfl
@[simp] theorem State.reg_setCnt (b n : Nat) (p' : Port) (r' : Reg) :
    (s.setCnt b n).reg p' r' = s.reg p' r' := rfl
@[simp] theorem State.reg_setSmp (b i : Nat) (v : Half) (p' : Port) (r' : Reg) :
    (s.setSmp b i v).reg p' r' = s.reg p' r' := rfl
@[simp] theorem State.reg_setCoef (k j : Nat) (v : Word) (p' : Port) (r' : Reg) :
    (s.setCoef k j v).reg p' r' = s.reg p' r' := rfl
@[simp] theorem State.reg_setDelay (c : Fin 2) (k : Nat) (d : Delay) (p' : Port) (r' : Reg) :
    (s.setDelay c k d).reg p' r' = s.reg p' r' := rfl
@[simp] theorem State.reg_zeroFilter (p' : Port) (r' : Reg) :
    (s.zeroFilter).reg p' r' = s.reg p' r' := rfl
@[simp] theorem State.reg_setLock (c : Fin 2) (l : Option CorePort) (p' : Port) (r' : Reg) :
    (s.setLock c l).reg p' r' = s.reg p' r' := rfl

end Sys2Proof.Machine
end

