-- ==== Sys2Proof/Laws/Frames.lean ====
section
/-! SUPPORT. What completing a command leaves as it was: once for each way a command completes, from what the
command's own effects leave as it was. -/

namespace Sys2Proof.Machine

open Sys2Proof

variable {s u : State}

/-- A state that differs from `s` in no port and in no input of the model. -/
def PortsKept (s u : State) : Prop := (∀ p, u.port p = s.port p) ∧ u.issuer = s.issuer ∧ u.sched = s.sched

theorem SharedKept.refl (s : State) : SharedKept [] s s :=
  ⟨fun x _ => by cases x <;> simp [Part.kept], rfl⟩

theorem PortsKept.refl (s : State) : PortsKept s s := ⟨fun _ => rfl, rfl, rfl⟩

theorem SharedKept.mono {l l' : List Part} (h : SharedKept l s u) (hl : ∀ x, x ∈ l → x ∈ l') :
    SharedKept l' s u :=
  ⟨fun x hx => h.1 x fun hm => hx (hl x hm), h.2⟩

theorem SharedKept.trans {l : List Part} {t : State} (h : SharedKept l s u) (h' : SharedKept l u t) :
    SharedKept l s t := by
  refine ⟨fun x hx => ?_, h'.2.trans h.2⟩
  have a := h.1 x hx
  have b := h'.1 x hx
  cases x <;> simp_all [Part.kept]

/-- A change of ports alone keeps every shared piece. -/
theorem SharedKept.setPort (p : Port) (ps : PortState) : SharedKept [] s (s.setPort p ps) :=
  ⟨fun x _ => by cases x <;> simp [Part.kept, State.coefAt, State.stAt], rfl⟩

theorem SharedKept.okay (v : Word) : SharedKept [] s (s.okay v) := SharedKept.setPort _ _

theorem SharedKept.answer (rd : Reg) (v : Word) : SharedKept [] s (s.answer rd v) :=
  (SharedKept.setPort _ _).trans (SharedKept.setPort _ _)

/-- What a command that completes with `okay` over its effects `u` does. -/
theorem completesWith_okay {i : Instr} {v : Word} {l : List Part} (he : exec i s = .next (u.okay v))
    (hp : PortsKept s u) (hk : SharedKept l s u) : CompletesWith i s (u.okay v) v l := by
  obtain ⟨hport, hi, hs⟩ := hp
  refine ⟨he, ?_, ?_, ?_, hk.trans ((SharedKept.okay v).mono (by simp)), ?_, ?_, hi, hs⟩
  · simp [Responded, State.okay, State.port_respond, hi, hport]
  · simp [QfKept, State.okay, State.port_respond, hi, hport]
  · intro r; simp [State.okay, State.reg, State.port_respond, hi, hport]
  · intro p' hp'; simp [State.okay, State.port_respond, hi, hport, hp']
  · simp [State.okay, State.port_respond, hi, hport]

/-- What a command that answers `v` in `x[rd]` over its effects `u` does. -/
theorem answersWith_answer {i : Instr} {rd : Reg} {v : Word} {l : List Part}
    (he : exec i s = .next (u.answer rd v)) (hp : PortsKept s u) (hk : SharedKept l s u) :
    AnswersWith i s (u.answer rd v) rd v l := by
  obtain ⟨hport, hi, hs⟩ := hp
  refine ⟨he, ?_, ?_, ?_, ?_, hk.trans ((SharedKept.answer rd v).mono (by simp)), ?_, ?_, hi, hs⟩
  · simp [State.answer, State.okay, hi]
  · simp [Responded, State.answer, State.okay, State.port_respond, State.port_setReg, hi, hport]
  · simp [QfKept, State.answer, State.okay, State.port_respond, State.port_setReg, hi, hport]
  · intro r hr; simp [State.answer, State.okay, hi, hr]; simp [State.reg, hport]
  · intro p' hp'; simp [State.answer, State.okay, State.port_respond, State.port_setReg, hi, hport, hp']
  · simp [State.answer, State.okay, State.port_respond, State.port_setReg, hi, hport]

/-- A rejected command has changed nothing but STATUS, the response, `cp` and `ESR.INV` (R241). -/
theorem rejected_of_reject {i : Instr} {c : SubCause} (he : exec i s = .next (s.reject c)) : Rejected i s c := by
  refine ⟨_, he, ⟨?_, rfl, rfl, rfl, ?_, ?_, ⟨fun x hx => ?_, rfl⟩, ?_, ?_⟩, rfl, rfl⟩
  · simp [Responded, State.reject, State.port_respond]; rfl
  · simp [QfKept, State.reject, State.port_respond]; rfl
  · intro r; simp [State.reject]; rfl
  · cases x <;> first | exact absurd (List.mem_singleton.mpr rfl) hx | (simp only [Part.kept]; intros; rfl)
  · intro p' hp'; simp [State.reject, State.port_respond, hp']; rfl
  · simp [State.reject, State.port_respond]; rfl

end Sys2Proof.Machine
end

