-- ==== Sys2Proof/Laws/Memory.lean ====
section
/-! SUPPORT. Every memory operation keeps every memory in canonical form. -/

namespace Sys2Proof.Machine

open Sys2Proof

variable {s : State}

/-- The canonical form depends on the memories and the parameters alone. -/
theorem State.memWf_congr {t : State} (h1 : t.smp = s.smp) (h2 : t.cnt = s.cnt) (h3 : t.own = s.own)
    (h4 : t.coef = s.coef) (h5 : t.st0 = s.st0) (h6 : t.st1 = s.st1) (h7 : t.cfg = s.cfg) :
    t.memWf = s.memWf := by
  simp [State.memWf, h1, h2, h3, h4, h5, h6, h7]

/-- The buffer's samples that a read finds are in canonical form. -/
theorem wf_look_smp {m : Table (Table Half)} (h : m.all (fun e => Table.wf (fun _ => unwrittenSample) e.2) = true)
    (b : Nat) : Table.wf (fun _ => unwrittenSample) (Table.look (fun _ => []) m b) = true := by
  rcases Table.look_mem (fun _ => ([] : Table Half)) m b with hm | hm
  · exact List.all_eq_true.mp h _ hm
  · rw [hm]; rfl

theorem State.memWf_setSmp (b i : Nat) (v : Half) (h : s.memWf = true) : (s.setSmp b i v).memWf = true := by
  simp only [State.memWf, samplesWf, Bool.and_eq_true] at h
  obtain ⟨⟨⟨⟨⟨⟨ho, hi⟩, hc⟩, hw⟩, hk⟩, h0⟩, h1⟩ := h
  simp only [State.memWf, samplesWf, Bool.and_eq_true]
  refine ⟨⟨⟨⟨⟨⟨Table.wf_store _ _ _ _ ho, ?_⟩, hc⟩, hw⟩, hk⟩, h0⟩, h1⟩
  refine List.all_eq_true.mpr fun e he => ?_
  simp only [State.setSmp] at he
  rcases Table.mem_store he with rfl | he
  · exact Table.wf_store _ _ _ _ (wf_look_smp hi b)
  · exact List.all_eq_true.mp hi e he

theorem State.memWf_setOwn (b : Nat) (o : Own) (h : s.memWf = true) : (s.setOwn b o).memWf = true := by
  simp only [State.memWf, samplesWf, Bool.and_eq_true] at h ⊢
  obtain ⟨⟨⟨⟨⟨⟨ho, hi⟩, hc⟩, hw⟩, hk⟩, h0⟩, h1⟩ := h
  exact ⟨⟨⟨⟨⟨⟨ho, hi⟩, hc⟩, Table.wf_store _ _ _ _ hw⟩, hk⟩, h0⟩, h1⟩

theorem State.memWf_setCnt (b n : Nat) (h : s.memWf = true) : (s.setCnt b n).memWf = true := by
  simp only [State.memWf, samplesWf, Bool.and_eq_true] at h ⊢
  obtain ⟨⟨⟨⟨⟨⟨ho, hi⟩, hc⟩, hw⟩, hk⟩, h0⟩, h1⟩ := h
  exact ⟨⟨⟨⟨⟨⟨ho, hi⟩, Table.wf_store _ _ _ _ hc⟩, hw⟩, hk⟩, h0⟩, h1⟩

theorem State.memWf_setCoef (k j : Nat) (v : Word) (h : s.memWf = true) : (s.setCoef k j v).memWf = true := by
  simp only [State.memWf, samplesWf, Bool.and_eq_true] at h ⊢
  obtain ⟨⟨⟨⟨⟨⟨ho, hi⟩, hc⟩, hw⟩, hk⟩, h0⟩, h1⟩ := h
  exact ⟨⟨⟨⟨⟨⟨ho, hi⟩, hc⟩, hw⟩, Table.wf_store _ _ _ _ hk⟩, h0⟩, h1⟩

theorem State.memWf_setDelay (c : Fin 2) (k : Nat) (d : Delay) (h : s.memWf = true) :
    (s.setDelay c k d).memWf = true := by
  simp only [State.memWf, samplesWf, Bool.and_eq_true] at h ⊢
  obtain ⟨⟨⟨⟨⟨⟨ho, hi⟩, hc⟩, hw⟩, hk⟩, h0⟩, h1⟩ := h
  refine ⟨⟨⟨⟨⟨⟨ho, hi⟩, hc⟩, hw⟩, hk⟩, ?_⟩, ?_⟩
  · simp only [State.setDelay]; split
    · exact Table.wf_store _ _ _ _ h0
    · exact h0
  · simp only [State.setDelay]; split
    · exact Table.wf_store _ _ _ _ h1
    · exact h1

theorem State.memWf_zeroFilter (h : s.memWf = true) : s.zeroFilter.memWf = true := by
  simp only [State.memWf, samplesWf, Bool.and_eq_true] at h ⊢
  obtain ⟨⟨⟨⟨⟨⟨ho, hi⟩, hc⟩, hw⟩, hk⟩, _⟩, _⟩ := h
  exact ⟨⟨⟨⟨⟨⟨ho, hi⟩, hc⟩, hw⟩, hk⟩, rfl⟩, rfl⟩

/-- Sample memory with nothing listed is in canonical form. -/
theorem samplesWf_nil : samplesWf [] = true := rfl

end Sys2Proof.Machine
end

