-- ==== Sys2Proof/Laws/PerInstr.lean ====
section
/-! SUPPORT. A family of laws per instruction: the `op` field of every well-formed command's word is the one
spec/30_encoding.md R94 assigns it. -/

namespace Sys2Proof.Laws

open Sys2Proof

/-- The `op` of R94. -/
def opOf : Instr → Nat
  | .nop => 0x00
  | .ldi _ _ => 0x01
  | .ldih _ _ => 0x02
  | .mov _ _ => 0x03
  | .get _ => 0x04
  | .csrrd _ _ => 0x08
  | .csrwr _ _ => 0x09
  | .sadd32 _ _ _ => 0x10
  | .ssub32 _ _ _ => 0x11
  | .sadd16 _ _ _ => 0x12
  | .ssub16 _ _ _ => 0x13
  | .sneg32 _ _ => 0x14
  | .sneg16 _ _ => 0x15
  | .q15to31 _ _ => 0x16
  | .q31to15 _ _ => 0x17
  | .mulh _ _ _ => 0x18
  | .smul31 _ _ _ => 0x19
  | .smul15 _ _ _ => 0x1A
  | .mulhs _ _ _ _ => 0x1B
  | .sshl32 _ _ _ => 0x1C
  | .asr32 _ _ _ => 0x1D
  | .sat16 _ _ => 0x1E
  | .take _ => 0x20
  | .takeb _ => 0x21
  | .give _ => 0x22
  | .ctake _ => 0x23
  | .cgive _ => 0x24
  | .setcnt _ _ => 0x25
  | .getcnt _ _ => 0x26
  | .sts _ _ _ => 0x28
  | .lds _ _ _ => 0x29
  | .stf _ _ _ => 0x2A
  | .ldf _ _ _ => 0x2B
  | .flush => 0x2C
  | .coefwr _ _ _ => 0x30
  | .coefrd _ _ _ => 0x31
  | .commit => 0x32
  | .eqen _ => 0x33
  | .bqrun _ _ => 0x34
  | .strd _ _ _ _ => 0x35
  | .fork _ => 0x40
  | .accept _ => 0x41
  | .done => 0x42
  | .join => 0x43
  | .fence => 0x44

namespace EncodedOp

/-- The encoding of a well-formed command carries its `op` in bits 31:24. -/
def Statement (i : Instr) : Prop := i.wellFormed = true → bitField (encode i) 31 24 = opOf i

/-- Format R, RS and N. -/
theorem packR_op (op rd ra rb fn : Nat) (h : op < 256 ∧ rd < 16 ∧ ra < 16 ∧ rb < 16 ∧ fn < 4096) :
    bitField (packR op rd ra rb fn) 31 24 = op := by
  simp only [bitField, packR, BitVec.toNat_ofNat]
  omega

/-- Format I. -/
theorem packI_op (op rd ra imm : Nat) (h : op < 256 ∧ rd < 16 ∧ ra < 16 ∧ imm < 65536) :
    bitField (packI op rd ra imm) 31 24 = op := by
  simp only [bitField, packI, BitVec.toNat_ofNat]
  omega

theorem nop : Statement (.nop) := by
  intro _
  rfl

theorem ldi (rd : Reg) (imm : Half) : Statement (.ldi rd imm) := by
  intro _
  have h0 := rd.isLt
  have h1 := imm.isLt
  exact packI_op _ _ _ _ (by omega)

theorem ldih (rd : Reg) (imm : Half) : Statement (.ldih rd imm) := by
  intro _
  have h0 := rd.isLt
  have h1 := imm.isLt
  exact packI_op _ _ _ _ (by omega)

theorem mov (rd ra : Reg) : Statement (.mov rd ra) := by
  intro _
  have h0 := rd.isLt
  have h1 := ra.isLt
  exact packR_op _ _ _ _ _ (by omega)

theorem get (ra : Reg) : Statement (.get ra) := by
  intro _
  have h0 := ra.isLt
  exact packR_op _ _ _ _ _ (by omega)

theorem csrrd (rd : Reg) (csr : Half) : Statement (.csrrd rd csr) := by
  intro _
  have h0 := rd.isLt
  have h1 := csr.isLt
  exact packI_op _ _ _ _ (by omega)

theorem csrwr (rs : Reg) (csr : Half) : Statement (.csrwr rs csr) := by
  intro _
  have h0 := rs.isLt
  have h1 := csr.isLt
  exact packI_op _ _ _ _ (by omega)

theorem sadd32 (rd ra rb : Reg) : Statement (.sadd32 rd ra rb) := by
  intro _
  have h0 := rd.isLt
  have h1 := ra.isLt
  have h2 := rb.isLt
  exact packR_op _ _ _ _ _ (by omega)

theorem ssub32 (rd ra rb : Reg) : Statement (.ssub32 rd ra rb) := by
  intro _
  have h0 := rd.isLt
  have h1 := ra.isLt
  have h2 := rb.isLt
  exact packR_op _ _ _ _ _ (by omega)

theorem sadd16 (rd ra rb : Reg) : Statement (.sadd16 rd ra rb) := by
  intro _
  have h0 := rd.isLt
  have h1 := ra.isLt
  have h2 := rb.isLt
  exact packR_op _ _ _ _ _ (by omega)

theorem ssub16 (rd ra rb : Reg) : Statement (.ssub16 rd ra rb) := by
  intro _
  have h0 := rd.isLt
  have h1 := ra.isLt
  have h2 := rb.isLt
  exact packR_op _ _ _ _ _ (by omega)

theorem sneg32 (rd ra : Reg) : Statement (.sneg32 rd ra) := by
  intro _
  have h0 := rd.isLt
  have h1 := ra.isLt
  exact packR_op _ _ _ _ _ (by omega)

theorem sneg16 (rd ra : Reg) : Statement (.sneg16 rd ra) := by
  intro _
  have h0 := rd.isLt
  have h1 := ra.isLt
  exact packR_op _ _ _ _ _ (by omega)

theorem q15to31 (rd ra : Reg) : Statement (.q15to31 rd ra) := by
  intro _
  have h0 := rd.isLt
  have h1 := ra.isLt
  exact packR_op _ _ _ _ _ (by omega)

theorem q31to15 (rd ra : Reg) : Statement (.q31to15 rd ra) := by
  intro _
  have h0 := rd.isLt
  have h1 := ra.isLt
  exact packR_op _ _ _ _ _ (by omega)

theorem mulh (rd ra rb : Reg) : Statement (.mulh rd ra rb) := by
  intro _
  have h0 := rd.isLt
  have h1 := ra.isLt
  have h2 := rb.isLt
  exact packR_op _ _ _ _ _ (by omega)

theorem smul31 (rd ra rb : Reg) : Statement (.smul31 rd ra rb) := by
  intro _
  have h0 := rd.isLt
  have h1 := ra.isLt
  have h2 := rb.isLt
  exact packR_op _ _ _ _ _ (by omega)

theorem smul15 (rd ra rb : Reg) : Statement (.smul15 rd ra rb) := by
  intro _
  have h0 := rd.isLt
  have h1 := ra.isLt
  have h2 := rb.isLt
  exact packR_op _ _ _ _ _ (by omega)

theorem mulhs (rd ra rb : Reg) (sh : Nat) : Statement (.mulhs rd ra rb sh) := by
  intro hwf
  simp only [Instr.wellFormed, decide_eq_true_eq] at hwf
  have h0 := rd.isLt
  have h1 := ra.isLt
  have h2 := rb.isLt
  exact packR_op _ _ _ _ _ (by omega)

theorem sshl32 (rd ra : Reg) (sh : Nat) : Statement (.sshl32 rd ra sh) := by
  intro hwf
  simp only [Instr.wellFormed, decide_eq_true_eq] at hwf
  have h0 := rd.isLt
  have h1 := ra.isLt
  exact packR_op _ _ _ _ _ (by omega)

theorem asr32 (rd ra : Reg) (sh : Nat) : Statement (.asr32 rd ra sh) := by
  intro hwf
  simp only [Instr.wellFormed, decide_eq_true_eq] at hwf
  have h0 := rd.isLt
  have h1 := ra.isLt
  exact packR_op _ _ _ _ _ (by omega)

theorem sat16 (rd ra : Reg) : Statement (.sat16 rd ra) := by
  intro _
  have h0 := rd.isLt
  have h1 := ra.isLt
  exact packR_op _ _ _ _ _ (by omega)

theorem take (rd : Reg) : Statement (.take rd) := by
  intro _
  have h0 := rd.isLt
  exact packR_op _ _ _ _ _ (by omega)

theorem takeb (rd : Reg) : Statement (.takeb rd) := by
  intro _
  have h0 := rd.isLt
  exact packR_op _ _ _ _ _ (by omega)

theorem give (ra : Reg) : Statement (.give ra) := by
  intro _
  have h0 := ra.isLt
  exact packR_op _ _ _ _ _ (by omega)

theorem ctake (rd : Reg) : Statement (.ctake rd) := by
  intro _
  have h0 := rd.isLt
  exact packR_op _ _ _ _ _ (by omega)

theorem cgive (ra : Reg) : Statement (.cgive ra) := by
  intro _
  have h0 := ra.isLt
  exact packR_op _ _ _ _ _ (by omega)

theorem setcnt (ra rb : Reg) : Statement (.setcnt ra rb) := by
  intro _
  have h0 := ra.isLt
  have h1 := rb.isLt
  exact packR_op _ _ _ _ _ (by omega)

theorem getcnt (rd ra : Reg) : Statement (.getcnt rd ra) := by
  intro _
  have h0 := rd.isLt
  have h1 := ra.isLt
  exact packR_op _ _ _ _ _ (by omega)

theorem sts (rs ra rb : Reg) : Statement (.sts rs ra rb) := by
  intro _
  have h0 := rs.isLt
  have h1 := ra.isLt
  have h2 := rb.isLt
  exact packR_op _ _ _ _ _ (by omega)

theorem lds (rd ra rb : Reg) : Statement (.lds rd ra rb) := by
  intro _
  have h0 := rd.isLt
  have h1 := ra.isLt
  have h2 := rb.isLt
  exact packR_op _ _ _ _ _ (by omega)

theorem stf (rs ra rb : Reg) : Statement (.stf rs ra rb) := by
  intro _
  have h0 := rs.isLt
  have h1 := ra.isLt
  have h2 := rb.isLt
  exact packR_op _ _ _ _ _ (by omega)

theorem ldf (rd ra rb : Reg) : Statement (.ldf rd ra rb) := by
  intro _
  have h0 := rd.isLt
  have h1 := ra.isLt
  have h2 := rb.isLt
  exact packR_op _ _ _ _ _ (by omega)

theorem flush : Statement (.flush) := by
  intro _
  rfl

theorem coefwr (rs : Reg) (k j : Nat) : Statement (.coefwr rs k j) := by
  intro hwf
  simp only [Instr.wellFormed, decide_eq_true_eq] at hwf
  have h0 := rs.isLt
  exact packI_op _ _ _ _ (by omega)

theorem coefrd (rd : Reg) (k j : Nat) : Statement (.coefrd rd k j) := by
  intro hwf
  simp only [Instr.wellFormed, decide_eq_true_eq] at hwf
  have h0 := rd.isLt
  exact packI_op _ _ _ _ (by omega)

theorem commit : Statement (.commit) := by
  intro _
  rfl

theorem eqen (e : Bool) : Statement (.eqen e) := by
  intro _
  cases e <;> rfl

theorem bqrun (ra : Reg) (c : Fin 2) : Statement (.bqrun ra c) := by
  intro _
  have h0 := ra.isLt
  have h1 := c.isLt
  exact packI_op _ _ _ _ (by omega)

theorem strd (rd : Reg) (c k j : Nat) : Statement (.strd rd c k j) := by
  intro hwf
  simp only [Instr.wellFormed, decide_eq_true_eq] at hwf
  have h0 := rd.isLt
  exact packI_op _ _ _ _ (by omega)

theorem fork (ra : Reg) : Statement (.fork ra) := by
  intro _
  have h0 := ra.isLt
  exact packR_op _ _ _ _ _ (by omega)

theorem accept (rd : Reg) : Statement (.accept rd) := by
  intro _
  have h0 := rd.isLt
  exact packR_op _ _ _ _ _ (by omega)

theorem done : Statement (.done) := by
  intro _
  rfl

theorem join : Statement (.join) := by
  intro _
  rfl

theorem fence : Statement (.fence) := by
  intro _
  rfl

end EncodedOp

end Sys2Proof.Laws
end

