-- ==== Sys2Proof/Laws/Steps.lean ====
section
/-! SUPPORT. What a step can do, said once: the cases of a step that answers a next state, agent by agent. A
statement about every step takes its cases from these and unfolds neither `step` nor an agent's step. -/

namespace Sys2Proof.Machine

open Sys2Proof

variable {s t : State} {w : Word}

/-- A word is evaluated as the command it decodes to, or rejected as RESERVED (R99). -/
theorem runWord_cases (h : runWord w s = .next t) :
    (∃ i, decode w = .ok i ∧ exec i s = .next t) ∨
      ((∃ e, decode w = .error e) ∧ t = s.reject .reserved) := by
  unfold runWord at h
  split at h
  · next i hi => exact .inl ⟨i, hi, h⟩
  · next e he => exact .inr ⟨⟨e, he⟩, by simpa using h.symm⟩

/-- A port's step: held while its engine runs, nothing to present, or the evaluation of its next word. -/
theorem State.portStep_cases {p : Port} (h : s.portStep p = .next t) :
    (s.engineBusy p = true ∧ t = s) ∨
      (s.engineBusy p = false ∧ (s.port p).nextWord = none ∧ t = s) ∨
      (s.engineBusy p = false ∧ ∃ w, (s.port p).nextWord = some w ∧ runWord w (s.present p w) = .next t) := by
  unfold State.portStep at h
  cases hb : s.engineBusy p <;> simp only [hb, if_true, Bool.false_eq_true, if_false] at h
  · split at h
    · next hn => exact .inr (.inl ⟨rfl, hn, by simpa using h.symm⟩)
    · next w hw => exact .inr (.inr ⟨rfl, w, hw, h⟩)
  · exact .inl ⟨rfl, by simpa using h.symm⟩

/-- A drain's step: nothing posted, or the oldest entry written to its cell. -/
theorem State.drainStep_cases {q : CorePort} (h : s.drainStep q = .next t) :
    (s.wb q = [] ∧ t = s) ∨
      ∃ e rest, s.wb q = e :: rest ∧ Params.entryInRange s.cfg e = true ∧
        t = (s.setWb q rest).commitPosted e := by
  unfold State.drainStep at h
  split at h
  · next hw => exact .inl ⟨hw, by simpa using h.symm⟩
  · next e rest hw =>
    split at h
    · next hr => exact .inr ⟨e, rest, hw, hr, by simpa using h.symm⟩
    · cases h

/-- An engine's step: idle, or one stage step of its run. -/
theorem State.engineStep_cases {q : CorePort} (h : s.engineStep q = .next t) :
    (s.engine q = .idle ∧ t = s) ∨
      ∃ r, s.engine q = .run r ∧ Params.runInRange s.cfg r = true ∧ t = s.stageStep q r := by
  unfold State.engineStep at h
  split at h
  · next hi => exact .inl ⟨hi, by simpa using h.symm⟩
  · next r hr =>
    split at h
    · next hk => exact .inr ⟨r, hr, hk, by simpa using h.symm⟩
    · cases h

/-- A step of the unit: in a legal instance, an exhausted schedule or the step of the agent scheduled next, the
schedule moved on. -/
theorem step_cases (h : step s = .next t) :
    s.cfg.legal = true ∧
      ((s.sched = [] ∧ t = s) ∨
        ∃ g rest, s.sched = g :: rest ∧ ({ s with sched := rest } : State).agentStep g = .next t) := by
  unfold step at h
  split at h
  · next hl =>
    refine ⟨hl, ?_⟩
    split at h
    · next hs => exact .inl ⟨hs, by simpa using h.symm⟩
    · next g rest hs => exact .inr ⟨g, rest, hs, h⟩
  · cases h

/-- The agent scheduled next takes its step. -/
theorem step_cons {g : Agent} {rest : List Agent} (hl : s.cfg.legal = true) (hs : s.sched = g :: rest) :
    step s = ({ s with sched := rest } : State).agentStep g := by
  simp [step, hl, hs]

end Sys2Proof.Machine
end

