-- ==== Sys2Proof/Tests/Slice0.lean ====
section
/-! SUPPORT. Tests. The words and the expected values are those of spec/95_test_vectors.md and of R97 of
spec/30_encoding.md, or worked by hand from the rule named. -/

namespace Sys2Proof.Tests

open Sys2Proof Sys2Proof.Machine Sys2Proof.Claims

/-! ### Well-formedness: one ill-formed term for each check -/

theorem test_wf_mulhs : (Instr.mulhs 1 2 3 32).wellFormed = false := by decide
theorem test_wf_sshl32 : (Instr.sshl32 1 2 32).wellFormed = false := by decide
theorem test_wf_asr32 : (Instr.asr32 1 2 32).wellFormed = false := by decide
theorem test_wf_coefwr_band : (Instr.coefwr 1 256 0).wellFormed = false := by decide
theorem test_wf_coefwr_word : (Instr.coefwr 1 0 16).wellFormed = false := by decide
theorem test_wf_coefrd_band : (Instr.coefrd 1 256 0).wellFormed = false := by decide
theorem test_wf_coefrd_word : (Instr.coefrd 1 0 16).wellFormed = false := by decide
theorem test_wf_strd_channel : (Instr.strd 1 16 0 0).wellFormed = false := by decide
theorem test_wf_strd_band : (Instr.strd 1 0 256 0).wellFormed = false := by decide
theorem test_wf_strd_word : (Instr.strd 1 0 0 16).wellFormed = false := by decide
/-- The largest operands the fields admit. -/
theorem test_wf_largest :
    (Instr.mulhs 15 15 15 31).wellFormed = true ∧ (Instr.coefwr 15 255 15).wellFormed = true ∧
      (Instr.strd 15 15 255 15).wellFormed = true := by decide

/-! ### Decoding: every command from a word written out from R90, R92, R94 -/

theorem test_decode_regmove :
    decode 0x00000000#32 = .ok .nop ∧
    decode 0x0110FFFF#32 = .ok (.ldi 1 0xFFFF#16) ∧
    decode 0x02504BA6#32 = .ok (.ldih 5 0x4BA6#16) ∧
    decode 0x03520000#32 = .ok (.mov 5 2) ∧
    decode 0x04030000#32 = .ok (.get 3) ∧
    decode 0x0820000A#32 = .ok (.csrrd 2 0x000A#16) ∧
    decode 0x09D00002#32 = .ok (.csrwr 13 0x0002#16) := by decide

theorem test_decode_fixedpoint_a :
    decode 0x10312000#32 = .ok (.sadd32 3 1 2) ∧
    decode 0x11BA6000#32 = .ok (.ssub32 11 10 6) ∧
    decode 0x12312000#32 = .ok (.sadd16 3 1 2) ∧
    decode 0x13312000#32 = .ok (.ssub16 3 1 2) ∧
    decode 0x14210000#32 = .ok (.sneg32 2 1) ∧
    decode 0x15210000#32 = .ok (.sneg16 2 1) ∧
    decode 0x16430000#32 = .ok (.q15to31 4 3) ∧
    decode 0x17760000#32 = .ok (.q31to15 7 6) := by decide

theorem test_decode_fixedpoint_b :
    decode 0x18312000#32 = .ok (.mulh 3 1 2) ∧
    decode 0x19312000#32 = .ok (.smul31 3 1 2) ∧
    decode 0x1A312000#32 = .ok (.smul15 3 1 2) ∧
    decode 0x1BE6B004#32 = .ok (.mulhs 14 6 11 4) ∧
    decode 0x1C21001F#32 = .ok (.sshl32 2 1 31) ∧
    decode 0x1D210010#32 = .ok (.asr32 2 1 16) ∧
    decode 0x1E210000#32 = .ok (.sat16 2 1) := by decide

theorem test_decode_bufferpool :
    decode 0x20100000#32 = .ok (.take 1) ∧
    decode 0x21300000#32 = .ok (.takeb 3) ∧
    decode 0x22020000#32 = .ok (.give 2) ∧
    decode 0x23200000#32 = .ok (.ctake 2) ∧
    decode 0x24030000#32 = .ok (.cgive 3) ∧
    decode 0x25015000#32 = .ok (.setcnt 1 5) ∧
    decode 0x262A0000#32 = .ok (.getcnt 2 10) ∧
    decode 0x28705000#32 = .ok (.sts 7 0 5) ∧
    decode 0x29365000#32 = .ok (.lds 3 6 5) ∧
    decode 0x2A706000#32 = .ok (.stf 7 0 6) ∧
    decode 0x2B905000#32 = .ok (.ldf 9 0 5) ∧
    decode 0x2C000000#32 = .ok .flush := by decide

theorem test_decode_biquad :
    decode 0x30500032#32 = .ok (.coefwr 5 3 2) ∧
    decode 0x31500074#32 = .ok (.coefrd 5 7 4) ∧
    decode 0x32000000#32 = .ok .commit ∧
    decode 0x33000001#32 = .ok (.eqen true) ∧
    decode 0x34020001#32 = .ok (.bqrun 2 1) ∧
    decode 0x35601073#32 = .ok (.strd 6 1 7 3) := by decide

theorem test_decode_dispatch :
    decode 0x40030000#32 = .ok (.fork 3) ∧
    decode 0x41200000#32 = .ok (.accept 2) ∧
    decode 0x42000000#32 = .ok .done ∧
    decode 0x43000000#32 = .ok .join ∧
    decode 0x44000000#32 = .ok .fence := by decide

/-- Reserved words of section 8 and V43-8: an unassigned `op`, and must-be-zero bits of eight shapes. -/
theorem test_decode_reserved :
    ([0xFF000000, 0x05000000, 0x1F000000, 0x27000000, 0x2D000000, 0x36000000, 0x45000000] : List Word).all
      (fun w => decide (decode w = .error .unassignedOp)) = true ∧
    ([0x00000001, 0x1C21F004, 0x1B412024, 0x20000001, 0x30501000, 0x33000002, 0x34100000] : List Word).all
      (fun w => decide (decode w = .error .mustBeZero)) = true := by decide

theorem test_decodeTableWord : decodeTableWord 32 0x1B412004 = some (.mulhs 4 1 2 4) := by decide

/-! ### One step of one command -/

/-- `s` with registers of port `p` set and `p` issuing. -/
def ready (p : Port) (regs : List (Reg × Word)) (s : State) : State :=
  { regs.foldl (fun t e => t.setReg p e.1 e.2) s with issuer := p }

/-- The outcome is a next state that passes `f`. -/
def gives (o : Result) (f : State → Bool) : Bool :=
  match o with
  | .next t => f t
  | _ => false

/-- Port `p` of `t` has completed its command with status `c` and `rdata = v`. -/
def said (t : State) (p : Port) (c : Cond) (v : Word) : Bool :=
  decide ((t.port p).resp = some { cond := c, rdata := v } ∧ (t.port p).status.cond = c)

/-- Port `p` of `t` has completed with status `c` and `v` in `x[rd]` and `rdata`. -/
def wrote (t : State) (p : Port) (rd : Reg) (c : Cond) (v : Word) : Bool :=
  said t p c v && decide (t.reg p rd = v)

/-- Port `p` of `t` has been rejected with `c`. -/
def refusedBy (t : State) (p : Port) (c : SubCause) : Bool := said t p (.invalidParameter c) 0 && t.esr.inv

/-- Word `w` on port A with `x1 = a` and `x2 = b` writes `v` to `rd` with status `c`. -/
def arith (w : Word) (a b : Word) (rd : Reg) (c : Cond) (v : Word) : Bool :=
  gives (runWord w (ready .a [(1, a), (2, b)] State.reset)) fun t =>
    wrote t .a rd c v && decide ((t.port .a).status.qf = t.esr.sat) && decide (t.esr.sat = decide (c = .overflowSaturated))

theorem test_ldi : arith 0x01108000 0x00000000 0x00000000 1 .ok 0xFFFF8000 = true := by decide
theorem test_ldi_max : arith 0x01107FFF 0x00000000 0x00000000 1 .ok 0x00007FFF = true := by decide
theorem test_ldih : arith 0x02107FFF 0xFFFFFFFF 0x00000000 1 .ok 0x7FFFFFFF = true := by decide
theorem test_mov : arith 0x03520000 0x00000000 0x12345678 5 .ok 0x12345678 = true := by decide
theorem test_sadd32_high : arith 0x10312000 0x7FFFFFFF 0x00000001 3 .overflowSaturated 0x7FFFFFFF = true := by decide
theorem test_sadd32_source_is_dest : arith 0x10111000 0xC0000000 0x00000000 1 .ok 0x80000000 = true := by decide
theorem test_ssub32_high : arith 0x11312000 0x00000000 0x80000000 3 .overflowSaturated 0x7FFFFFFF = true := by decide
theorem test_ssub32_exact : arith 0x11312000 0x12345678 0x9ABCDEF0 3 .ok 0x77777788 = true := by decide
theorem test_sadd16_low : arith 0x12312000 0x00008000 0x0000FFFF 3 .overflowSaturated 0xFFFF8000 = true := by decide
theorem test_sadd16_low_halves : arith 0x12312000 0xABCD0001 0x12340002 3 .ok 0x00000003 = true := by decide
theorem test_ssub16_high : arith 0x13312000 0x00000000 0x00008000 3 .overflowSaturated 0x00007FFF = true := by decide
theorem test_ssub16_exact : arith 0x13312000 0x12345678 0x9ABCDEF0 3 .ok 0x00007788 = true := by decide
theorem test_sneg32_least : arith 0x14210000 0x80000000 0x00000000 2 .overflowSaturated 0x7FFFFFFF = true := by decide
theorem test_sneg32_next : arith 0x14210000 0x80000001 0x00000000 2 .ok 0x7FFFFFFF = true := by decide
theorem test_sneg16_least : arith 0x15210000 0xFFFF8000 0x00000000 2 .overflowSaturated 0x00007FFF = true := by decide
theorem test_sneg16_one : arith 0x15210000 0x00000001 0x00000000 2 .ok 0xFFFFFFFF = true := by decide
theorem test_q15to31 : arith 0x16210000 0x12348000 0x00000000 2 .ok 0x80000000 = true := by decide
theorem test_q15to31_minus_one : arith 0x16210000 0x0000FFFF 0x00000000 2 .ok 0xFFFF0000 = true := by decide
theorem test_q31to15 : arith 0x17210000 0xFFFFFFFF 0x00000000 2 .ok 0xFFFFFFFF = true := by decide
theorem test_q31to15_least : arith 0x17210000 0x80000000 0x00000000 2 .ok 0xFFFF8000 = true := by decide
theorem test_mulh_floor : arith 0x18312000 0xFFFFFFFF 0x00000001 3 .ok 0xFFFFFFFF = true := by decide
theorem test_mulh_mixed : arith 0x18312000 0x12345678 0x9ABCDEF0 3 .ok 0xF8CC93D6 = true := by decide
theorem test_smul31_clamps : arith 0x19312000 0x80000000 0x80000000 3 .overflowSaturated 0x7FFFFFFF = true := by decide
theorem test_smul31_mixed : arith 0x19312000 0x12345678 0x9ABCDEF0 3 .ok 0xF19927AC = true := by decide
theorem test_smul15_clamps : arith 0x1A312000 0x00008000 0x00008000 3 .overflowSaturated 0x00007FFF = true := by decide
theorem test_smul15_mixed : arith 0x1A312000 0x12345678 0x9ABCDEF0 3 .ok 0xFFFFE9AA = true := by decide
theorem test_mulhs_low : arith 0x1B412002 0x80000000 0x7FFFFFFF 4 .overflowSaturated 0x80000000 = true := by decide
theorem test_mulhs_shift_31 : arith 0x1B41201F 0xFFFFFFFF 0x00000001 4 .ok 0x80000000 = true := by decide
theorem test_sshl32_clamps : arith 0x1C21001F 0x00000001 0x00000000 2 .overflowSaturated 0x7FFFFFFF = true := by decide
theorem test_sshl32_shift_31 : arith 0x1C21001F 0xFFFFFFFF 0x00000000 2 .ok 0x80000000 = true := by decide
theorem test_asr32 : arith 0x1D210004 0x9ABCDEF0 0x00000000 2 .ok 0xF9ABCDEF = true := by decide
theorem test_asr32_shift_31 : arith 0x1D21001F 0x80000000 0x00000000 2 .ok 0xFFFFFFFF = true := by decide
theorem test_sat16_low : arith 0x1E210000 0xFFFF7FFF 0x00000000 2 .overflowSaturated 0xFFFF8000 = true := by decide
theorem test_sat16_keeps : arith 0x1E210000 0xFFFF8000 0x00000000 2 .ok 0xFFFF8000 = true := by decide

theorem test_nop : gives (runWord 0x00000000 State.reset) (fun t => said t .a .ok 0 && decide (t.portA.cp = 1)) = true := by
  decide
theorem test_get :
    gives (runWord 0x04030000 (ready .a [(3, 0x00007FFF)] State.reset)) (fun t => said t .a .ok 0x00007FFF) = true := by
  decide

/-! CSR reads after reset and the reads of section 2. -/

theorem test_csrrd_cfg0 : arith 0x08100000 0 0 1 .ok 0x001C0808 = true := by decide
theorem test_csrrd_poolstat : arith 0x08100005 0 0 1 .ok 0x00000008 = true := by decide
theorem test_csr_numbers :
    ([0x08100108, 0x0810000B, 0x0810FFFF, 0x09100000, 0x09100100] : List Word).all
      (fun w => gives (runWord w State.reset) fun t => refusedBy t .a .csr) = true := by decide
/-- `CSRWR x1, IE` with `x1 = 7` sets `GO_IE` to bit 0. -/
theorem test_csrwr_ie :
    gives (runWord 0x0910000A (ready .a [(1, 7)] State.reset)) (fun t => said t .a .ok 0 && t.goIe) = true := by decide
/-- A clamp, then STATUS reads `0x00000103`; clearing `QF` by bit 8. -/
theorem test_csrrd_status :
    gives (runWord 0x08800002 (({ State.reset with issuer := .a } : State).saturate 3 0))
      (fun t => wrote t .a 8 .ok 0x00000103) = true := by decide
theorem test_csrwr_status :
    gives (runWord 0x09D00002 ((ready .a [(13, 0x100)] State.reset).raiseQf .a))
      (fun t => decide ((t.port .a).status.qf = false)) = true := by decide

/-! Pool (section 5). -/

/-- Buffer 0 with the producer, the rest free. -/
def holding : State := State.reset.acquire 0 [1, 2, 3, 4, 5, 6, 7]

/-- Buffer 1 queued, buffer 2 with the consumer, buffer 0 with the producer. -/
def shared : State :=
  { ((((holding.setOwn 1 .queued).setOwn 2 .cons).setCnt 2 5)) with freeq := [3, 4, 5, 6, 7], outq := [1] }

theorem test_take :
    gives (runWord 0x20000000 State.reset) (fun t => wrote t .a 0 .ok 0 && decide (t.ownOf 0 = .prod) &&
      decide (t.freeq = [1, 2, 3, 4, 5, 6, 7])) = true := by decide
/-- V42-2: the free list empty. -/
theorem test_take_exhausted :
    gives (runWord 0x20200000 { State.reset with freeq := [] }) (fun t => wrote t .a 2 .resourceExhausted 0xFFFFFFFF &&
      decide (t.overrun = 1) && t.esr.res) = true := by decide
theorem test_takeb :
    gives (runWord 0x21300000 holding) (fun t => wrote t .a 3 .ok 1 && decide (t.ownOf 1 = .prod)) = true := by decide
theorem test_takeb_held :
    gives (runWord 0x21300000 { State.reset with freeq := [] }) (fun t => decide (t = { State.reset with freeq := [] }))
      = true := by decide
theorem test_give :
    gives (runWord 0x22000000 holding) (fun t => said t .a .ok 0 && decide (t.outq = [0]) && decide (t.ownOf 0 = .queued))
      = true := by decide
/-- V42-3: held while the port's writes have not drained. -/
theorem test_give_held :
    gives (runWord 0x22000000 (holding.setWb .a [.smp 0 0 0x1234])) (fun t => decide (t.portA = holding.portA) &&
      decide (t.outq = [])) = true := by decide
theorem test_ctake :
    gives (runWord 0x23100000 (ready .c [] shared)) (fun t => wrote t .c 1 .ok 1 && decide (t.ownOf 1 = .cons) &&
      decide (t.outq = [])) = true := by decide
theorem test_ctake_exhausted :
    gives (runWord 0x23300000 (ready .c [] holding)) (fun t => wrote t .c 3 .resourceExhausted 0xFFFFFFFF &&
      decide (t.underrun = 1)) = true := by decide
theorem test_cgive :
    gives (runWord 0x24010000 (ready .c [(1, 2)] shared)) (fun t => said t .c .ok 0 && decide (t.ownOf 2 = .free) &&
      decide (t.freeq = [3, 4, 5, 6, 7, 2])) = true := by decide
/-- V42-6: the buffer is queued, not the consumer's. -/
theorem test_cgive_owner :
    gives (runWord 0x24010000 (ready .c [(1, 1)] shared)) (fun t => refusedBy t .c .owner) = true := by decide
theorem test_setcnt :
    gives (runWord 0x25001000 (ready .a [(0, 0), (1, 128)] holding)) (fun t => decide (t.cntOf 0 = 128)) = true := by decide
/-- V42-6: 129 frames, on a buffer that is not the producer's: range before owner. -/
theorem test_setcnt_range :
    gives (runWord 0x250A1000 (ready .a [(10, 7), (1, 129)] holding)) (fun t => refusedBy t .a .range) = true := by decide
theorem test_getcnt :
    gives (runWord 0x26290000 (ready .b [(9, 2)] shared)) (fun t => wrote t .b 2 .ok 5) = true := by decide
theorem test_getcnt_range :
    gives (runWord 0x26290000 (ready .a [(9, 8)] holding)) (fun t => refusedBy t .a .range) = true := by decide
/-- V42-3: posted, memory unchanged. -/
theorem test_sts :
    gives (runWord 0x28705000 (ready .a [(7, 0x1234)] holding)) (fun t => decide (t.wb .a = [.smp 0 0 0x1234]) &&
      decide (t.smp = [])) = true := by decide
/-- V42-6: the last index and the one after it. -/
theorem test_sts_range :
    gives (runWord 0x28705000 (ready .a [(5, 255)] holding)) (fun t => said t .a .ok 0) = true ∧
    gives (runWord 0x28705000 (ready .a [(5, 256)] holding)) (fun t => refusedBy t .a .range) = true := by decide
/-- V42-3: forwarded from the port's own buffer. -/
theorem test_lds_forwarded :
    gives (runWord 0x29805000 ((ready .a [] holding).setWb .a [.smp 0 0 0x1111, .smp 0 0 0xFFFE]))
      (fun t => wrote t .a 8 .ok 0xFFFFFFFE) = true := by decide
/-- V44-1: port B without an accepted block. -/
theorem test_lds_owner :
    gives (runWord 0x29805000 (ready .b [] holding)) (fun t => refusedBy t .b .owner) = true := by decide
/-- V42-4: two entries, a depth of 1, an empty buffer: memory is written in the step. -/
theorem test_stf_direct :
    gives (runWord 0x2A706000 (ready .a [(6, 1), (7, 0x80017FFF)]
        { holding with cfg := { Params.default with wbDepth := some 1 } }))
      (fun t => decide (t.smpAt 0 2 = 0x7FFF) && decide (t.smpAt 0 3 = 0x8001) && decide (t.wb .a = [])) = true := by decide
theorem test_stf_held :
    gives (runWord 0x2A706000 (ready .a [(6, 1), (7, 0x80017FFF)]
        (({ holding with cfg := { Params.default with wbDepth := some 1 } } : State).setWb .a [.smp 0 1 0x1234])))
      (fun t => decide (t.portA.cp = 0) && decide (t.smp = []) && decide (t.wb .a = [.smp 0 1 0x1234])) = true := by decide
theorem test_ldf :
    gives (runWord 0x2B905000 (ready .a [(5, 1)] ((holding.setSmp 0 2 0x0001).setSmp 0 3 0xFFFE)))
      (fun t => wrote t .a 9 .ok 0xFFFE0001) = true := by decide
theorem test_ldf_range :
    gives (runWord 0x2B805000 (ready .a [(5, 128)] holding)) (fun t => refusedBy t .a .range) = true := by decide
/-- V42-7. -/
theorem test_flush :
    gives (runWord 0x2C000000 shared) (fun t => said t .a .ok 0 && decide (t.poolstatWord = 0x00000008) &&
      decide (t.freeq = [0, 1, 2, 3, 4, 5, 6, 7]) && decide (shared.poolstatWord = 0x01010105)) = true := by decide
/-- R179: engine B running. -/
theorem test_flush_protocol :
    gives (runWord 0x2C000000 (shared.startRun .b 0 1)) (fun t => refusedBy t .a .protocol) = true := by decide

/-! Biquad core (section 6). -/

/-- The +20 dB band `PK`. -/
def bandPK : Coefs := { b0 := 0x4BA6EB6D, b1 := 0, b2 := 0xC7178AEC, a1 := 0, a2 := 0xFD4189A6 }

/-- The default instance with the other summation mode. -/
def stepwise : Params := { Params.default with accMode := .stepwise }

/-- Stage vectors S5 and S6. -/
theorem test_stage_S5 :
    stage Params.default bandPK ⟨0x10000000, 0, 0x4BA6EB60, 0⟩ 0x08000000 =
      ⟨0x25D375B0, ⟨0x08000000, 0x10000000, 0x25D375B0, 0x4BA6EB60⟩, false⟩ := by decide
theorem test_stage_S6 :
    stage Params.default bandPK ⟨0x08000000, 0x10000000, 0x25D375B0, 0x4BA6EB60⟩ 0xF0000000 =
      ⟨0x80000000, ⟨0xF0000000, 0x08000000, 0x80000000, 0x25D375B0⟩, true⟩ := by decide
/-- Stage vector S9: the two modes part. -/
theorem test_stage_S9 :
    let c : Coefs := ⟨0x7FFFFFFF, 0, 0x80000000, 0, 0⟩
    let d : Delay := ⟨0, 0x7FFF0000, 0, 0⟩
    ((stage Params.default c d 0x7FFF0000).y = 0xFFFFFFF0 ∧ (stage Params.default c d 0x7FFF0000).clamped = false) ∧
    ((stage stepwise c d 0x7FFF0000).y = 0xFFFFFFFF ∧ (stage stepwise c d 0x7FFF0000).clamped = true) := by decide
theorem test_coefwr :
    gives (runWord 0x30500000 (ready .a [(5, 0x08000000)] State.reset)) (fun t =>
      decide (t.wb .a = [.coef 0 0 0x08000000]) && t.coefDirty && decide (t.coef = [])) = true := by decide
theorem test_coefwr_range :
    ([0x30500080, 0x30500005] : List Word).all
      (fun w => gives (runWord w State.reset) fun t => refusedBy t .a .range) = true := by decide
/-- V43-7: port A forwards its own entry, port B reads memory. -/
theorem test_coefrd :
    gives (runWord 0x31600000 (State.reset.setWb .a [.coef 0 0 0x08000000])) (fun t => wrote t .a 6 .ok 0x08000000) = true ∧
    gives (runWord 0x31600000 (ready .b [] (State.reset.setWb .a [.coef 0 0 0x08000000])))
      (fun t => wrote t .b 6 .ok 0x10000000) = true := by decide
theorem test_coefrd_port :
    gives (runWord 0x31500000 (ready .c [] State.reset)) (fun t => refusedBy t .c .port) = true := by decide
theorem test_commit :
    gives (runWord 0x32000000 (({ State.reset with coefDirty := true } : State).setDelay 1 7 ⟨1, 2, 3, 4⟩))
      (fun t => decide (t.st1 = []) && !t.coefDirty) = true := by decide
theorem test_eqen :
    gives (runWord 0x33000001 (State.reset.setDelay 0 0 ⟨1, 2, 3, 4⟩)) (fun t => decide (t.st0 = []) && t.eqEn) = true := by
  decide
/-- V44-3: the start step; EQCTL then reads `0x00000029`. -/
theorem test_bqrun_start :
    gives (runWord 0x34010000 (ready .b [(1, 0)] { (holding.setOwn 0 .split).setCnt 0 1 with
        eqEn := true, bar := .bActive, jobBuf := 0 }))
      (fun t => decide (t.eqctlWord = 0x00000029) && decide (t.portB.cp = 0)) = true := by decide
/-- V43-7: held while a recompute is in progress. -/
theorem test_bqrun_held :
    gives (runWord 0x34000000 { holding.setCnt 0 1 with eqEn := true, coefDirty := true }) (fun t =>
      decide (t.portA.cp = 0) && decide (t.engine .a = .idle)) = true := by decide
theorem test_strd :
    gives (runWord 0x35501073 (State.reset.setDelay 1 7 ⟨1, 2, 3, 4⟩)) (fun t => wrote t .a 5 .ok 4) = true := by decide
theorem test_strd_range :
    ([0x35502000, 0x35501074, 0x35501080] : List Word).all
      (fun w => gives (runWord w State.reset) fun t => refusedBy t .a .range) = true := by decide

/-! Dispatcher (section 7). -/

theorem test_fork :
    gives (runWord 0x40000000 { holding.setCnt 0 1 with goIe := true }) (fun t => said t .a .ok 0 &&
      decide (t.barstatWord = 0x00010001) && decide (t.bufstatWord 0 = 0x00010002)) = true := by decide
/-- A second FORK of the split buffer: owner before protocol. -/
theorem test_fork_owner :
    gives (runWord 0x40000000 { holding.setOwn 0 .split with bar := .goPending }) (fun t => refusedBy t .a .owner)
      = true := by decide
theorem test_accept :
    gives (runWord 0x41400000 (ready .b [] { State.reset with bar := .goPending, jobBuf := 1 })) (fun t =>
      wrote t .b 4 .ok 1 && decide (t.bar = .bActive)) = true := by decide
theorem test_accept_held :
    gives (runWord 0x41100000 (ready .b [] State.reset)) (fun t => decide (t.portB = State.reset.portB)) = true := by decide
theorem test_done :
    gives (runWord 0x42000000 (ready .b [] { State.reset with bar := .bActive })) (fun t => decide (t.bar = .donePending))
      = true := by decide
theorem test_done_protocol :
    gives (runWord 0x42000000 (ready .b [] State.reset)) (fun t => refusedBy t .b .protocol) = true := by decide
theorem test_join :
    gives (runWord 0x43000000 { holding.setOwn 0 .split with bar := .donePending, jobBuf := 0 }) (fun t =>
      decide (t.bar = .idle) && decide (t.ownOf 0 = .prod)) = true := by decide
theorem test_join_protocol :
    gives (runWord 0x43000000 State.reset) (fun t => refusedBy t .a .protocol) = true := by decide
theorem test_fence : gives (runWord 0x44000000 State.reset) (fun t => said t .a .ok 0) = true := by decide
theorem test_fence_held :
    gives (runWord 0x44000000 (State.reset.setWb .a [.coef 0 0 1])) (fun t => decide (t.portA.cp = 0)) = true := by decide

/-! Agents: a drain step, a stage step (V43-4, first sample of channel 0), the fetch of the interface. -/

theorem test_drain :
    gives (step { State.reset.setWb .a [.smp 0 0 0x1234, .smp 0 1 5] with sched := [.drain .a] }) (fun t =>
      decide (t.smpAt 0 0 = 0x1234) && decide (t.wb .a = [.smp 0 1 5]) && decide (t.sched = [])) = true := by decide

/-- One frame, one band, channel 0, its run about to take its only stage step. -/
def lastStage : State :=
  { ({ holding with cfg := { Params.default with nband := 1 }, coef := [(0, bandPK)] } : State).setSmp 0 0 0x0400 with
    coreA := { wb := [], eng := .run { b := 0, c := 0, n := 1, i := 0, k := 0, v := 0, sat := false } }
    lock0 := some .a
    portA := { holding.portA with outstanding := some 0x34000000 }
    sched := [.engine .a] }

theorem test_last_stage :
    gives (step lastStage) (fun t => said t .a .ok 0 && decide (t.smpAt 0 0 = 0x12E9) &&
      decide (t.delayAt 0 0 = ⟨0x04000000, 0, 0x12E9BAD0, 0⟩) && decide (t.lock0 = none) &&
      decide (t.engine .a = .idle) && decide (t.portA.cp = 1)) = true := by decide

theorem test_fetch :
    gives (step (State.reset.withFetchWord 32 0x01107FFF)) (fun t => wrote t .a 1 .ok 0x00007FFF) = true ∧
    gives (step (State.reset.withFetchWord 32 0x23300000)) (fun t => wrote t .c 3 .resourceExhausted 0xFFFFFFFF) = true := by
  decide

/-! ### Witnesses: a state and operands that meet the hypotheses of each statement -/

theorem witness_DecodeOfEncodeIsTheCommand : (Instr.strd 15 15 255 15).wellFormed = true := by decide
theorem witness_EncodeOfDecodeIsTheWord : decode 0x35F0FFFF#32 = .ok (.strd 15 15 255 15) := by decide
theorem witness_MatchAndMaskTellTheCommand :
    (⟨"MULHS", 0x1B000000#32, 0xFF000FE0#32⟩ : OpcodeRow) ∈ opcodeRows ∧
      0x1BFFF01F#32 &&& 0xFF000FE0#32 = 0x1B000000#32 := ⟨by simp [opcodeRows], by decide⟩

/-- Port A about to take its step with word `w`. -/
def fetching (w : Word) (s : State) : State := s.withNextWord .a w

/-- An idle engine, and a running one. -/
theorem witness_AStepOfAPortRunsItsCommand :
    (let s := fetching 0x1B412004 State.reset
     s.cfg.legal = true ∧ s.sched = .port .a :: [] ∧ s.engineBusy .a = false ∧
       (s.port .a).nextWord = some 0x1B412004#32 ∧ decode 0x1B412004#32 = .ok (.mulhs 4 1 2 4)) ∧
    (let s : State := { State.reset with
       coreA := { wb := [], eng := .run { b := 7, c := 1, n := 128, i := 0, k := 0, v := 0, sat := false } }
       sched := [.port .a] }
     s.cfg.legal = true ∧ s.sched = .port .a :: [] ∧ s.engineBusy .a = true) := by decide
/-- A word with an unassigned `op`; one with the op of MULHS and `fn[5]` set. -/
theorem witness_ReservedWordsAreRejected :
    (let s := fetching 0xFF000000 State.reset
     s.cfg.legal = true ∧ s.sched = .port .a :: [] ∧ s.engineBusy .a = false ∧
       (s.port .a).nextWord = some 0xFF000000#32) ∧
    (∀ row, row ∈ opcodeRows → 0xFF000000#32 &&& row.mask ≠ row.pattern) ∧
    (∀ row, row ∈ opcodeRows → 0x1B412024#32 &&& row.mask ≠ row.pattern) := by decide

/-- The last sample cell and the last coefficient cell posted on port B. -/
def draining : State :=
  { State.reset.setWb .b [.smp 7 255 0x1234, .coef 7 4 5] with sched := [.drain .b, .drain .b] }

theorem witness_DrainStepWritesTheOldestEntry :
    draining.cfg.legal = true ∧ draining.sched = .drain .b :: [.drain .b] ∧
      draining.wb .b = .smp 7 255 0x1234 :: [.coef 7 4 5] ∧
      Params.entryInRange draining.cfg (.smp 7 255 0x1234) = true ∧
      Params.entryInRange draining.cfg (.coef 7 4 5) = true := by decide

/-- Engine A about to take its step on run `r`. -/
def filtering (r : Run) (s : State) : State :=
  { s.setLock r.c (some .a) with
    coreA := { wb := [], eng := .run r }
    portA := { s.portA with outstanding := some (encode (.bqrun 0 r.c)) }
    sched := [.engine .a] }

/-- The first clause at the last band but one; the second at the last band of the last frame but one. -/
theorem witness_StageStepAdvancesTheRun :
    (let r : Run := { b := 7, c := 1, n := 128, i := 126, k := 6, v := 0, sat := false }
     let s := filtering r State.reset
     s.cfg.legal = true ∧ s.sched = .engine .a :: [] ∧ s.engine .a = .run r ∧ runOk s r ∧ r.k + 1 < s.cfg.nband) ∧
    (let r : Run := { b := 7, c := 1, n := 128, i := 126, k := 7, v := 0, sat := false }
     let s := filtering r State.reset
     s.cfg.legal = true ∧ s.sched = .engine .a :: [] ∧ s.engine .a = .run r ∧ runOk s r ∧ r.i + 1 < r.n ∧
       s.cfg.nband ≤ r.k + 1) := by
  unfold runOk; decide
/-- The last sample of a full buffer. -/
theorem witness_LastStageStepFinishesTheRun :
    let r : Run := { b := 7, c := 1, n := 128, i := 127, k := 7, v := 0, sat := false }
    let s := filtering r State.reset
    s.cfg.legal = true ∧ s.sched = .engine .a :: [] ∧ s.engine .a = .run r ∧ runOk s r ∧
      s.cfg.nband ≤ r.k + 1 ∧ r.n ≤ r.i + 1 := by
  unfold runOk; decide
/-- Before the last of the steps and at it. -/
theorem witness_RunTakesExactlyItsStageSteps :
    let r : Run := { b := 7, c := 0, n := 2, i := 0, k := 0, v := 0, sat := false }
    ∀ m, m = 15 ∨ m = 16 →
      let s := { filtering r State.reset with sched := List.replicate m (.engine .a) }
      s.cfg.legal = true ∧ s.engine .a = .run r ∧ r.i = 0 ∧ r.k = 0 ∧ 1 ≤ r.n ∧ r.b < s.cfg.nbuf ∧
        r.n ≤ s.cfg.cap ∧ m ≤ r.n * s.cfg.nband ∧ s.sched = List.replicate m (.engine .a) := by
  rintro r m (rfl | rfl) <;> decide

/-- Two coefficients of 1.0. -/
def twoOnes : Coefs := ⟨0x10000000, 0x10000000, 0, 0, 0⟩

/-- The sums at both ends of the range, and the first beyond each end. -/
theorem witness_WideStageClampsTheExactSum :
    Params.default.accMode = .wide ∧
    isQ31 ((terms twoOnes ⟨0, 0, 0, 0⟩ 0x7FFFFFFF).sum * 2 ^ Params.default.postShift) ∧
    isQ31 ((terms twoOnes ⟨0, 0, 0, 0⟩ 0x80000000).sum * 2 ^ Params.default.postShift) ∧
    2147483647 < (terms twoOnes ⟨16, 0, 0, 0⟩ 0x7FFFFFFF).sum * 2 ^ Params.default.postShift ∧
    (terms twoOnes ⟨0xFFFFFFFF, 0, 0, 0⟩ 0x80000000).sum * 2 ^ Params.default.postShift < -2147483648 := by
  unfold isQ31; decide
/-- Case H1 of section 4. -/
theorem witness_ModesAgreeWhenNothingLeavesTheRange :
    let d : Delay := ⟨0x02000000, 0x04000000, 0x0974DD60, 0x12E9BAD0⟩
    (∀ n, n ∈ terms bandPK d 0xFC000000 → isQ31 (n * 2 ^ Params.default.postShift)) ∧
    (∀ m, m ≤ 5 → isQ31 (((terms bandPK d 0xFC000000).take m).sum * 2 ^ Params.default.postShift)) := by
  unfold isQ31; decide

/-- The registers of case H2 of section 4, on a STEPWISE instance. -/
def byHand : State :=
  ready .a [(2, 0x4BA6EB6D), (4, 0xC7178AEC), (6, 0xFD4189A6), (12, 0x7FFF0000), (9, 0x7FFF0000)]
    { State.reset with cfg := stepwise }

theorem witness_StageByHandEqualsTheStepwiseEngine :
    byHand.cfg.accMode = .stepwise ∧
    (byHand.reg byHand.issuer 2 = bandPK.b0 ∧ byHand.reg byHand.issuer 3 = bandPK.b1 ∧
      byHand.reg byHand.issuer 4 = bandPK.b2 ∧ byHand.reg byHand.issuer 5 = bandPK.a1 ∧
      byHand.reg byHand.issuer 6 = bandPK.a2) ∧
    byHand.reg byHand.issuer 12 = 0x7FFF0000#32 ∧ byHand.reg byHand.issuer 8 = 0 ∧
    byHand.reg byHand.issuer 9 = 0x7FFF0000#32 ∧ byHand.reg byHand.issuer 10 = 0 ∧
    byHand.reg byHand.issuer 11 = 0 ∧ (byHand.port byHand.issuer).status.qf = false := by decide
/-- `POST_SHIFT` at the end of the last clause's range. -/
theorem witness_IdentityBandClearsTheLowBits :
    let cfg := { Params.default with coefFrac := 16 }
    cfg.legal = true ∧ cfg.postShift ≤ 16 ∧ (0x80010000#32).extractLsb' 0 16 = 0 := by decide
/-- The sign cases, and the two cases of the negation at the smallest product each admits. -/
theorem witness_MultiplyHighSigns :
    0 < (1#32).toInt * (1#32).toInt ∧ (0xFFFFFFFF#32).toInt * (1#32).toInt < 0 ∧
    ((0x80000001#32).toInt = -(0x7FFFFFFF#32).toInt ∧
      ¬ (4294967296 : Int) ∣ (0x7FFFFFFF#32).toInt * (1#32).toInt) ∧
    ((0xC0000000#32).toInt = -(0x40000000#32).toInt ∧
      (4294967296 : Int) ∣ (0x40000000#32).toInt * (4#32).toInt) := by decide

/-- Port A with `x1 = a` and `x2 = b`. -/
def two (a b : Word) : State := ready .a [(1, a), (2, b)] State.reset

/-- Each command; SADD32 at both ends of the range and one beyond each. -/
theorem witness_WordArithmeticSaturates :
    wordResult (two 0x7FFFFFFE 1) (.sadd32 3 1 2) = some (3, 2147483647) ∧
    wordResult (two 0x7FFFFFFF 1) (.sadd32 3 1 2) = some (3, 2147483648) ∧
    wordResult (two 0x80000001 0xFFFFFFFF) (.sadd32 3 1 2) = some (3, -2147483648) ∧
    wordResult (two 0x80000000 0xFFFFFFFF) (.sadd32 3 1 2) = some (3, -2147483649) ∧
    wordResult (two 0x80000000 1) (.ssub32 3 1 2) = some (3, -2147483649) ∧
    wordResult (two 0x80000000 0) (.sneg32 2 1) = some (2, 2147483648) ∧
    wordResult (two 0x80000000 0x80000000) (.smul31 3 1 2) = some (3, 2147483648) ∧
    wordResult (two 0xFFFFFFFF 1) (.mulhs 4 1 2 31) = some (4, -2147483648) ∧
    wordResult (two 1 0) (.sshl32 2 1 31) = some (2, 2147483648) := by decide
theorem witness_HalfArithmeticSaturates :
    halfResult (two 0x7FFE 1) (.sadd16 3 1 2) = some (3, 32767) ∧
    halfResult (two 0x7FFF 1) (.sadd16 3 1 2) = some (3, 32768) ∧
    halfResult (two 0x8001 0xFFFF) (.sadd16 3 1 2) = some (3, -32768) ∧
    halfResult (two 0x8000 0xFFFF) (.sadd16 3 1 2) = some (3, -32769) ∧
    halfResult (two 0x8000 1) (.ssub16 3 1 2) = some (3, -32769) ∧
    halfResult (two 0x8000 0) (.sneg16 2 1) = some (2, 32768) ∧
    halfResult (two 0x8000 0x8000) (.smul15 3 1 2) = some (3, 32768) ∧
    halfResult (two 0x8000 0) (.sat16 2 1) = some (2, 32768) := by decide
theorem witness_ConversionsAndShiftsAreExact :
    exactResult (two 0xFFFFFFFF 1) (.mulh 3 1 2) = some (3, 0xFFFFFFFF#32) ∧
    exactResult (two 0x12348000 0) (.q15to31 2 1) = some (2, 0x80000000#32) ∧
    exactResult (two 0x80000000 0) (.q31to15 2 1) = some (2, 0xFFFF8000#32) ∧
    exactResult (two 0x80000000 0) (.asr32 2 1 31) = some (2, 0xFFFFFFFF#32) := by decide

/-- The last shared register, the first and the last BUFSTAT. -/
theorem witness_CsrReadShowsTheFields :
    csrImplemented Params.default 0x000A ∧ csrImplemented Params.default 0x0100 ∧
      csrImplemented Params.default 0x0107 := by
  unfold csrImplemented; decide
/-- The numbers next to the implemented ones; a read-only register at each end. -/
theorem witness_UnimplementedAndReadOnlyCsrsAreRejected :
    (¬ csrImplemented Params.default 0x000B ∧ ¬ csrImplemented Params.default 0x00FF ∧
      ¬ csrImplemented Params.default 0x0108) ∧
    (csrImplemented Params.default 0x0000 ∧ ¬ csrWritable 0x0000) ∧
    (csrImplemented Params.default 0x0107 ∧ ¬ csrWritable 0x0107) := by
  unfold csrImplemented csrWritable; decide
theorem witness_CsrWriteWritesOneRegister :
    csrWritable 0x0002 ∧ csrWritable 0x0003 ∧ csrWritable 0x0006 ∧ csrWritable 0x0007 ∧ csrWritable 0x0008 ∧
      csrWritable 0x000A := by
  unfold csrWritable; decide

theorem witness_TakeHandsOutTheHead :
    State.reset.issuer = .a ∧ State.reset.freeq = 0 :: [1, 2, 3, 4, 5, 6, 7] := by decide

/-- No buffer free, none queued. -/
def dry : State := { State.reset with freeq := [] }

theorem witness_OnlyTakeAndCtakeAreExhausted :
    (dry.issuer = .a ∧ dry.freeq = []) ∧
    (∃ t, exec (.take 2) dry = .next t ∧ Responded dry.issuer .resourceExhausted 0xFFFFFFFF#32 dry t) ∧
    ((ready .c [] dry).issuer = .c ∧ (ready .c [] dry).outq = []) ∧
    (∃ t, exec (.ctake 3) (ready .c [] dry) = .next t ∧
      Responded Port.c .resourceExhausted 0xFFFFFFFF#32 (ready .c [] dry) t) :=
  ⟨by decide, ⟨_, rfl, by unfold Responded; decide⟩, by decide, ⟨_, rfl, by unfold Responded; decide⟩⟩

/-- The largest handle, buffer 7, in state `o`; port `p` names it in `x1`. -/
def handle (p : Port) (o : Own) : State := ready p [(1, 7)] (State.reset.setOwn 7 o)

theorem witness_GiveQueuesTheBuffer :
    let s := handle .a .prod
    s.issuer = .a ∧ idx s 1 < s.cfg.nbuf ∧ s.ownOf (idx s 1) = .prod ∧ s.wb .a = [] := by decide
theorem witness_CtakeHandsOutTheHead :
    (ready .c [] shared).issuer = .c ∧ (ready .c [] shared).outq = 1 :: [] := by decide
theorem witness_CgiveFreesTheBuffer :
    let s := handle .c .cons
    s.issuer = .c ∧ idx s 1 < s.cfg.nbuf ∧ s.ownOf (idx s 1) = .cons := by decide
/-- A full count, on a held and on a forked buffer; any port may read it. -/
theorem witness_CountsAreSetAndRead :
    (∀ o, o = .prod ∨ o = .split →
      let s := (handle .a o).setReg .a 2 128
      s.issuer = .a ∧ idx s 1 < s.cfg.nbuf ∧ idx s 2 ≤ s.cfg.cap ∧
        (s.ownOf (idx s 1) = .prod ∨ s.ownOf (idx s 1) = .split)) ∧
    idx (handle .c .free) 1 < (handle .c .free).cfg.nbuf := by
  refine ⟨?_, by decide⟩
  rintro o (rfl | rfl) <;> decide

/-- Port A with buffer 7 in `x1`, the index `n` in `x2`, a posted-write buffer of depth `d`. -/
def storing (d : Option Nat) (n : Word) : State :=
  (({ State.reset with cfg := { Params.default with wbDepth := d } } : State).setOwn 7 .prod).setReg .a 1 7
    |>.setReg .a 2 n

/-- The last sample and the last frame, the buffer with exactly the room they need. -/
theorem witness_StoresArePosted :
    (isStore (.sts 3 1 2) ∧ (storing (some 1) 255).issuer = CorePort.a.port ∧
      valid (storing (some 1) 255) (.sts 3 1 2) ∧
      roomFor (storing (some 1) 255) .a (storedHalves (storing (some 1) 255) (.sts 3 1 2)).length) ∧
    (isStore (.stf 3 1 2) ∧ (storing (some 2) 127).issuer = CorePort.a.port ∧
      valid (storing (some 2) 127) (.stf 3 1 2) ∧
      roomFor (storing (some 2) 127) .a (storedHalves (storing (some 2) 127) (.stf 3 1 2)).length) := by
  have h : ∀ d n, (storing d n).cfg.wbDepth = d := fun _ _ => rfl
  refine ⟨⟨trivial, rfl, ⟨rfl, ⟨by decide, by decide⟩, .inl (by decide), trivial⟩, ?_⟩,
    ⟨trivial, rfl, ⟨rfl, ⟨by decide, by decide⟩, .inl (by decide), trivial⟩, ?_⟩⟩ <;>
  · intro d hd
    rw [h] at hd
    cases hd
    decide
theorem witness_UnpostableStoresAreDirect :
    (isStore (.sts 3 1 2) ∧ (storing (some 0) 255).issuer = CorePort.a.port ∧
      valid (storing (some 0) 255) (.sts 3 1 2) ∧ (storing (some 0) 255).cfg.wbDepth = some 0 ∧
      0 < (storedHalves (storing (some 0) 255) (.sts 3 1 2)).length ∧ (storing (some 0) 255).wb .a = []) ∧
    (isStore (.stf 3 1 2) ∧ (storing (some 1) 127).issuer = CorePort.a.port ∧
      valid (storing (some 1) 127) (.stf 3 1 2) ∧ (storing (some 1) 127).cfg.wbDepth = some 1 ∧
      1 < (storedHalves (storing (some 1) 127) (.stf 3 1 2)).length ∧ (storing (some 1) 127).wb .a = []) :=
  ⟨⟨trivial, rfl, ⟨rfl, ⟨by decide, by decide⟩, .inl (by decide), trivial⟩, rfl, by decide, rfl⟩,
    ⟨trivial, rfl, ⟨rfl, ⟨by decide, by decide⟩, .inl (by decide), trivial⟩, rfl, by decide, rfl⟩⟩
/-- Ports A and C, the last sample and the last frame; port B with an accepted block. -/
theorem witness_LoadsReturnWhatThePortSees :
    valid (storing none 255) (.lds 3 1 2) ∧ valid (storing none 127) (.ldf 3 1 2) ∧
    valid (handle .c .cons) (.lds 3 1 2) ∧ valid (handle .c .cons) (.ldf 3 1 2) ∧
    valid { handle .b .split with bar := .bActive, jobBuf := 7 } (.lds 3 1 2) :=
  ⟨⟨rfl, ⟨by decide, by decide⟩, .inl (by decide), trivial⟩, ⟨rfl, ⟨by decide, by decide⟩, .inl (by decide), trivial⟩,
    ⟨rfl, ⟨by decide, by decide⟩, (by decide : (handle .c .cons).ownOf 7 = .cons), trivial⟩,
    ⟨rfl, ⟨by decide, by decide⟩, (by decide : (handle .c .cons).ownOf 7 = .cons), trivial⟩,
    ⟨rfl, ⟨by decide, by decide⟩, ⟨by decide, rfl, by decide⟩, trivial⟩⟩
theorem witness_FlushRestoresPoolBarrierAndFilter :
    shared.issuer = .a ∧ shared.engine .b = .idle ∧ shared.wb .a = [] ∧ shared.wb .b = [] := by decide

theorem witness_CoefwrMarksAndWrites :
    (storing none 0).issuer = CorePort.a.port ∧ 7 < (storing none 0).cfg.nband ∧ 4 < 5 ∧
      roomFor (storing (some 1) 0) .a 1 ∧ (storing (some 0) 0).cfg.wbDepth = some 0 ∧
      (storing (some 0) 0).wb .a = [] := by
  refine ⟨rfl, by decide, by decide, ?_, rfl, rfl⟩
  intro d hd
  cases (show some 1 = some d from hd)
  decide
theorem witness_CoefficientAndStateReads :
    State.reset.issuer ≠ .c ∧ 7 < State.reset.cfg.nband ∧ 4 < 5 ∧ 3 < 4 := by decide
theorem witness_CommitAndEqenZeroTheFilter :
    (ready .b [] State.reset).issuer = CorePort.b.port ∧ (ready .b [] State.reset).wb .b = [] := by decide

/-- Buffer 7 forked and accepted with `n` frames, the equalizer in state `e`, port B issuing. -/
def accepted (e : Bool) (n : Nat) : State :=
  { (handle .b .split).setCnt 7 n with bar := .bActive, jobBuf := 7, eqEn := e }

theorem accepted_valid (e : Bool) (n : Nat) (c : Fin 2) : valid (accepted e n) (.bqrun 1 c) :=
  ⟨rfl, show (7 : Nat) < 8 by decide,
    ⟨show (handle .b .split).ownOf 7 = .split by decide, rfl, show (7 : Nat) = 7 from rfl⟩, trivial⟩

theorem witness_BqrunStartsTheEngine :
    let s := accepted true 1
    s.issuer = CorePort.b.port ∧ valid s (.bqrun 1 1) ∧ s.wb .b = [] ∧ s.coefDirty = false ∧
      s.lockOf 1 = none ∧ s.eqEn = true ∧ s.cntOf (idx s 1) ≠ 0 :=
  ⟨rfl, accepted_valid _ _ _, rfl, rfl, rfl, rfl, by decide⟩
/-- Bypass, and an empty block. -/
theorem witness_BqrunBypassTouchesNothing :
    (let s := accepted false 1
     s.issuer = CorePort.b.port ∧ valid s (.bqrun 1 1) ∧ s.wb .b = [] ∧ s.coefDirty = false ∧
       s.lockOf 1 = none ∧ s.eqEn = false) ∧
    (let s := accepted true 0
     s.issuer = CorePort.b.port ∧ valid s (.bqrun 1 1) ∧ s.wb .b = [] ∧ s.coefDirty = false ∧
       s.lockOf 1 = none ∧ s.cntOf (idx s 1) = 0) :=
  ⟨⟨rfl, accepted_valid _ _ _, rfl, rfl, rfl, rfl⟩, ⟨rfl, accepted_valid _ _ _, rfl, rfl, rfl, by decide⟩⟩

theorem witness_ForkPublishesTheBlock :
    let s := handle .a .prod
    s.cfg.legal = true ∧ s.issuer = .a ∧ idx s 1 < s.cfg.nbuf ∧ s.ownOf (idx s 1) = .prod ∧ s.bar = .idle ∧
      s.wb .a = [] := by decide
theorem witness_AcceptTakesTheToken :
    let s := { handle .b .split with bar := .goPending, jobBuf := 7 }
    s.issuer = .b ∧ s.bar = .goPending := by decide
theorem witness_DonePostsTheCompletion :
    (accepted true 1).issuer = .b ∧ (accepted true 1).bar = .bActive ∧ (accepted true 1).wb .b = [] := by decide
theorem witness_JoinTakesTheBufferBack :
    let s := { handle .a .split with bar := .donePending, jobBuf := 7 }
    s.issuer = .a ∧ s.bar = .donePending := by decide
/-- Port A with nothing posted; port C while the others have writes posted. -/
theorem witness_FenceOnlyWaits :
    posted (storing none 0) (storing none 0).issuer = [] ∧ posted draining .c = [] := by decide

theorem witness_PortRightsDecideThePortRejection :
    allowed (.take 0) (ready .b [] State.reset).issuer = false ∧
    (allowed .fence State.reset.issuer = true ∧ ∃ t, exec .fence State.reset = .next t) :=
  ⟨by decide, by decide, _, rfl⟩
/-- Each clause: a range, an owner and a protocol check that fails, a hold, and a command that is not held. -/
theorem witness_ChecksComeInTheFixedOrder :
    (allowed (.give 1) (storing none 0).issuer = true ∧ ¬ rangeOk (ready .a [(1, 8)] State.reset) (.give 1)) ∧
    (rangeOk (handle .a .free) (.give 1) ∧ ¬ ownerOk (handle .a .free) (.give 1)) ∧
    (rangeOk { handle .a .prod with bar := .goPending } (.fork 1) ∧
      ownerOk { handle .a .prod with bar := .goPending } (.fork 1) ∧
      ¬ protocolOk { handle .a .prod with bar := .goPending } (.fork 1)) ∧
    (valid dry (.takeb 0) ∧ waits dry (.takeb 0)) ∧
    (valid (accepted true 1) (.bqrun 1 1) ∧ ¬ waits (accepted true 1) (.bqrun 1 1)) := by
  refine ⟨⟨by decide, ?_⟩, ⟨?_, ?_⟩, ⟨?_, ?_, ?_⟩, ⟨⟨rfl, trivial, trivial, trivial⟩, rfl⟩,
    accepted_valid _ _ _, ?_⟩
  · show ¬ (8 < 8); decide
  · show 7 < 8; decide
  · show ¬ ((handle .a .free).ownOf 7 = .prod); decide
  · show 7 < 8; decide
  · show (handle .a .prod).ownOf 7 = .prod; decide
  · show ¬ (BarState.goPending = .idle); decide
  · rintro (h | h | h)
    · exact h rfl
    · exact absurd h (by decide)
    · exact h rfl

/-- Buffer 0 forked, buffer 1 queued, buffer 2 with the consumer, the others free. -/
def inUse : State := { shared.setOwn 0 .split with bar := .goPending, jobBuf := 0 }

theorem ownOf_inUse (b : Nat) :
    inUse.ownOf b = if b = 0 then .split else if b = 1 then .queued else if b = 2 then .cons else .free := by
  simp only [State.ownOf, show inUse.own = [(0, .split), (1, .queued), (2, .cons)] from by decide, Table.look]

theorem inUse_poolInv : PoolInv inUse where
  freeNodup := by decide
  outNodup := by decide
  freeExact b := by
    rw [ownOf_inUse, show inUse.freeq = [3, 4, 5, 6, 7] from rfl, show inUse.cfg.nbuf = 8 from rfl]
    simp only [List.mem_cons, List.not_mem_nil, or_false]
    split <;> [simp_all; split <;> [simp_all; split <;> [simp_all; skip]]]
    simp only [and_true]; omega
  outExact b := by
    rw [ownOf_inUse, show inUse.outq = [1] from rfl]
    split <;> [simp_all; split <;> [simp_all; split <;> simp_all]]
  outside b hb := by
    rw [show inUse.cfg.nbuf = 8 from rfl] at hb
    rw [ownOf_inUse, if_neg (by omega), if_neg (by omega), if_neg (by omega)]
  splitExact b := by
    rw [ownOf_inUse, show inUse.bar = .goPending from rfl, show inUse.jobBuf.toNat = 0 from rfl]
    split <;> [simp_all; split <;> [simp_all; split <;> [simp_all; skip]]]
    simp only [reduceCtorEq, false_iff]; omega

/-- The consumer about to take the queued buffer. -/
def taking : State := inUse.withNextWord .c 0x23000000

theorem taking_poolInv : PoolInv taking :=
  ⟨inUse_poolInv.1, inUse_poolInv.2, inUse_poolInv.3, inUse_poolInv.4, inUse_poolInv.5, inUse_poolInv.6⟩

theorem witness_EveryStepKeepsThePoolInvariant : PoolInv taking ∧ ∃ t, step taking = .next t :=
  ⟨taking_poolInv, _, rfl⟩
theorem witness_OwnershipMovesOnlyByItsCommands :
    PoolInv taking ∧ ∃ t, step taking = .next t ∧ t.ownOf 1 ≠ taking.ownOf 1 :=
  ⟨taking_poolInv, _, rfl, by decide⟩

/-- Engine A at the last band of the last frame of a full buffer. -/
def running : State := filtering { b := 7, c := 0, n := 128, i := 127, k := 7, v := 0, sat := true } State.reset

theorem running_runInv : RunInv running where
  counts b := Nat.zero_le _
  runs q r h := by
    cases q
    · cases (show Engine.run { b := 7, c := 0, n := 128, i := 127, k := 7, v := 0, sat := true } = .run r from h)
      exact ⟨by decide, by decide, by decide, by decide, rfl, rfl, _, 0, rfl, by decide⟩
    · exact absurd (show Engine.idle = .run r from h) (by simp)
  locks c q h := by
    match c, h with
    | 0, h => cases (show some CorePort.a = some q from h); exact ⟨_, rfl, rfl⟩
    | 1, h => exact absurd (show none = some q from h) (by simp)
  entries q e h := by cases q <;> exact absurd (show e ∈ [] from h) (by simp)
  depth q d h := by cases q <;> exact Nat.zero_le _

theorem witness_EveryStepKeepsTheEngineInvariant : RunInv running ∧ ∃ t, step running = .next t :=
  ⟨running_runInv, _, rfl⟩
/-- The last sample of the default sample memory, not zero. -/
theorem witness_ResetMeetsTheInvariants : samplesWf [(7, [(255, 0x1234#16)])] = true := by decide
theorem witness_TheUnitNeverStops : running.cfg.legal = true ∧ RunInv running := ⟨by decide, running_runInv⟩
theorem witness_EveryStepKeepsTheMemoriesCanonical : lastStage.memWf = true ∧ ∃ t, step lastStage = .next t :=
  ⟨by decide, _, rfl⟩

/-- The forked block about to be accepted. -/
def accepting : State := inUse.withNextWord .b 0x41100000

theorem witness_TheBarrierMovesOnlyByItsCommands :
    ∃ t, step accepting = .next t ∧ t.bar ≠ accepting.bar := ⟨_, rfl, by decide⟩
/-- Every case of the premise for port A: another port's step, a step of its engine inside the run, and a step of
its engine while idle. -/
theorem witness_PortsArePrivate :
    (let s := accepting
     s.sched = .port .b :: [] ∧ (∃ t, step s = .next t) ∧ Agent.port .b ≠ .port .a ∧
       ∀ q, CorePort.port q = .a → Agent.port .b ≠ .engine q) ∧
    (let s := filtering { b := 7, c := 1, n := 128, i := 0, k := 6, v := 0, sat := false } State.reset
     s.sched = .engine .a :: [] ∧ Agent.engine .a ≠ .port .a ∧
       ∃ t, step s = .next t ∧ t.engine .a ≠ .idle) ∧
    (let s : State := { State.reset with sched := [.engine .a] }
     s.sched = .engine .a :: [] ∧ (∃ t, step s = .next t) ∧ s.engine .a = .idle) :=
  ⟨⟨rfl, ⟨_, rfl⟩, by decide, fun _ _ => by simp⟩, ⟨rfl, by decide, _, rfl, by decide⟩, rfl, ⟨_, rfl⟩, rfl⟩
/-- The end of the run of engine A is the one case the last clause leaves out: the run ends and port A changes. -/
theorem test_PortsArePrivate_end_of_run :
    ∃ t, step running = .next t ∧ running.engine .a ≠ .idle ∧ t.engine .a = .idle ∧ t.port .a ≠ running.port .a :=
  ⟨_, rfl, by decide, by decide, by decide⟩
theorem witness_QfIsSticky :
    let s := fetching 0x09D00002 ((State.reset.setReg .a 13 0x100).raiseQf .a)
    ∃ t, step s = .next t ∧ (s.port .a).status.qf = true ∧ (t.port .a).status.qf = false :=
  ⟨_, rfl, by decide, by decide⟩

/-- Writing 7 to ESR clears all three bits. -/
theorem witness_EsrIsSticky :
    let s := fetching 0x09100003
      { State.reset.setReg .a 1 7 with esr := { res := true, inv := true, sat := true } }
    ∃ t, step s = .next t ∧ (s.esr.res = true ∧ t.esr.res = false) ∧ (s.esr.inv = true ∧ t.esr.inv = false) ∧
      (s.esr.sat = true ∧ t.esr.sat = false) :=
  ⟨_, rfl, by decide, by decide, by decide⟩

/-- The seven agents in turn. -/
def inTurn (n : Nat) : Agent :=
  match n % 7 with
  | 0 => .port .a
  | 1 => .port .b
  | 2 => .port .c
  | 3 => .drain .a
  | 4 => .drain .b
  | 5 => .engine .a
  | _ => .engine .b

theorem inTurn_fair (s : State) : WeaklyFair inTurn s := by
  intro a n _
  have h : ∃ k, k < 7 ∧ inTurn (7 * n + k) = a := by
    simp only [inTurn, Nat.mul_add_mod]
    rcases a with p | q | q
    · cases p <;> [exact ⟨0, by decide, rfl⟩; exact ⟨1, by decide, rfl⟩; exact ⟨2, by decide, rfl⟩]
    · cases q <;> [exact ⟨3, by decide, rfl⟩; exact ⟨4, by decide, rfl⟩]
    · cases q <;> [exact ⟨5, by decide, rfl⟩; exact ⟨6, by decide, rfl⟩]
  obtain ⟨k, _, hk⟩ := h
  exact ⟨7 * n + k, by omega, hk⟩

/-- Engine A running; `l` posted on port B and a FENCE held there. -/
def runningAndPosted (l : List Posted) : State :=
  { running.setWb .b l with portB := { running.portB with outstanding := some (encode .fence) } }

theorem runningAndPosted_runInv {l : List Posted}
    (hl : ∀ e, e ∈ l → Params.entryInRange Params.default e = true) : RunInv (runningAndPosted l) where
  counts := running_runInv.counts
  runs q r h := by
    cases q
    · exact running_runInv.runs .a r h
    · exact absurd (show Engine.idle = .run r from h) (by simp)
  locks c q h := by
    obtain ⟨r, hr, hc⟩ := running_runInv.locks c q h
    cases q
    · exact ⟨r, hr, hc⟩
    · exact absurd (show Engine.idle = .run r from hr) (by simp)
  entries q e h := by
    cases q
    · exact absurd (show e ∈ [] from h) (by simp)
    · exact hl e h
  depth q d h := absurd (show none = some d from h) (by simp)

/-- A buffer of one entry; and one of two equal entries, the second of which leaves after the first. A run is on in
both, and a FENCE held. -/
theorem witness_FairnessEndsRunsAndDrains :
    (let s := runningAndPosted [.smp 7 255 0x1234]
     s.cfg.legal = true ∧ RunInv s ∧ WeaklyFair inTurn s ∧ s.engine .a ≠ .idle ∧
       s.wb .b = [] ++ .smp 7 255 0x1234 :: [] ∧ (s.port CorePort.b.port).outstanding ≠ none) ∧
    (let s := runningAndPosted [.coef 7 4 5, .coef 7 4 5]
     s.cfg.legal = true ∧ RunInv s ∧ WeaklyFair inTurn s ∧
       s.wb .b = [.coef 7 4 5] ++ .coef 7 4 5 :: []) :=
  ⟨⟨by decide, runningAndPosted_runInv (by decide), inTurn_fair _, by decide, rfl, by decide⟩,
    by decide, runningAndPosted_runInv (by decide), inTurn_fair _, rfl⟩

/-- The drain clause at the one-entry buffer: the drain step of the fifth turn takes the entry out. -/
theorem test_FairnessEndsRunsAndDrains_last_entry :
    let s := runningAndPosted [.smp 7 255 0x1234]
    inTurn 4 = .drain .b ∧ (s.under inTurn 4).wb .b = .smp 7 255 0x1234 :: ([] ++ []) ∧
      (s.under inTurn 5).wb .b = [] ++ [] ∧ ((s.under inTurn 5).port .b).outstanding ≠ none := by decide

/-- Both engines at the last band of one frame. -/
def bothRunning : State :=
  { State.reset with
    coreA := { wb := [], eng := .run { b := 7, c := 0, n := 1, i := 0, k := 7, v := 0, sat := false } }
    coreB := { wb := [], eng := .run { b := 7, c := 1, n := 1, i := 0, k := 7, v := 0, sat := true } } }

theorem witness_StageStepsOfTheTwoEnginesCommute :
    ∃ ra rb : Run, bothRunning.cfg.legal = true ∧ bothRunning.engine .a = .run ra ∧
      bothRunning.engine .b = .run rb ∧ ra.c ≠ rb.c ∧ runOk bothRunning ra ∧ runOk bothRunning rb := by
  refine ⟨_, _, by decide, rfl, rfl, by decide, ?_, ?_⟩ <;> unfold runOk <;> decide

end Sys2Proof.Tests
end

section
/-! PROOFS. What a step of a command port is: the state at which its command is evaluated (R10, R12, R203). -/

namespace Sys2Proof.Machine

open Sys2Proof

variable (s : State)

/-! ### Presenting a word -/

@[simp] theorem State.present_issuer (p : Port) (w : Word) : (s.present p w).issuer = p := rfl
@[simp] theorem State.present_sched (p : Port) (w : Word) : (s.present p w).sched = s.sched := rfl
@[simp] theorem State.present_cfg (p : Port) (w : Word) : (s.present p w).cfg = s.cfg := rfl
@[simp] theorem State.cntOf_present (p : Port) (w : Word) (b : Nat) : (s.present p w).cntOf b = s.cntOf b := rfl
@[simp] theorem State.lockOf_present (p : Port) (w : Word) (c : Fin 2) : (s.present p w).lockOf c = s.lockOf c := rfl
@[simp] theorem State.engine_present (p : Port) (w : Word) (q : CorePort) : (s.present p w).engine q = s.engine q := rfl
@[simp] theorem State.wb_present (p : Port) (w : Word) (q : CorePort) : (s.present p w).wb q = s.wb q := rfl
@[simp] theorem State.engineBusy_present (p : Port) (w : Word) (p' : Port) :
    (s.present p w).engineBusy p' = s.engineBusy p' := rfl

/-- Presenting a word touches one field of one port. -/
@[simp] theorem State.port_present (p : Port) (w : Word) (p' : Port) :
    (s.present p w).port p' = if p' = p then { s.port p with outstanding := some w } else s.port p' :=
  State.port_setPort s p _ p'

/-- Presenting a word, the schedule moved on, leaves every shared piece. -/
theorem SharedKept.present_withSched (rest : List Agent) (p : Port) (w : Word) :
    SharedKept [] s (({ s with sched := rest } : State).present p w) :=
  ⟨fun x _ => by cases x <;> (simp only [Part.kept]; intros; rfl), rfl⟩

/-! ### The step of a port -/

variable {s} {p : Port} {w : Word}

/-- The port of a running engine is held (R203). -/
theorem State.portStep_busy (hb : s.engineBusy p = true) : s.portStep p = .next s := by
  simp [State.portStep, hb]

/-- An idle port evaluates its next word (R10, R12). -/
theorem State.portStep_next (hb : s.engineBusy p = false) (hw : (s.port p).nextWord = some w) :
    s.portStep p = runWord w (s.present p w) := by
  simp [State.portStep, hb, hw]

theorem runWord_ok {i : Instr} (hd : decode w = .ok i) : runWord w s = exec i s := by
  simp [runWord, hd]

end Sys2Proof.Machine

namespace Sys2Proof.Proofs

open Sys2Proof Sys2Proof.Machine

/-- Settles O5: the two cases of `portStep`, at the state whose schedule has moved on. -/
theorem aStepOfAPortRunsItsCommand : Obligations.AStepOfAPortRunsItsCommand := by
  unfold Obligations.AStepOfAPortRunsItsCommand
  intro s p rest hl hs
  have hstep : step s = ({ s with sched := rest } : State).portStep p := step_cons hl hs
  refine ⟨fun hb => hstep.trans (State.portStep_busy hb), fun w i hb hw hd => ?_⟩
  refine ⟨({ s with sched := rest } : State).present p w, ?_, rfl, rfl, SharedKept.present_withSched s rest p w,
    fun p' hp' => ?_, ?_⟩
  · rw [hstep, State.portStep_next (s := { s with sched := rest }) hb hw, runWord_ok hd]
  · exact (State.port_present _ p w p').trans (if_neg hp')
  · exact (State.port_present _ p w p).trans (if_pos rfl)

end Sys2Proof.Proofs
end

section
/-! PROOFS. What a command can do to what the engine invariant reads: the parameters, the counts, the locks, the
engines, the posted-write buffers and the outstanding words. Said once, for every command. -/

namespace Sys2Proof.Machine

open Sys2Proof

variable {s u t : State} {es : List Posted} {w : Word}

/-! ### Core ports -/

@[simp] theorem CorePort.core_port (q : CorePort) : q.port.core = some q := by cases q <;> rfl

@[simp] theorem CorePort.port_inj {q q' : CorePort} : q.port = q'.port ↔ q = q' := by
  cases q <;> cases q' <;> simp [CorePort.port]

/-- A port that has a core is a core port. -/
theorem Port.eq_port_of_core {p : Port} (h : p.core.isSome = true) : ∃ q : CorePort, p = q.port := by
  cases p
  · exact ⟨.a, rfl⟩
  · exact ⟨.b, rfl⟩
  · exact absurd h (by decide)

theorem State.engineBusy_port (q : CorePort) : s.engineBusy q.port = decide (s.engine q ≠ .idle) := by
  simp [State.engineBusy]

/-- A port that takes a step has no run (R203). -/
theorem State.ne_port_of_run {p : Port} {q : CorePort} {r : Run} (hb : s.engineBusy p = false)
    (hr : s.engine q = .run r) : q.port ≠ p := by
  rintro rfl
  simp [State.engineBusy_port, hr] at hb

theorem State.fenced_port (q : CorePort) : s.fenced q.port = decide (s.wb q = []) := by
  simp [State.fenced]

/-! ### The effects of a command -/

/-- From `s` to `u` the issuing port has posted `es` (to its own buffer), and perhaps set counts that fit a buffer;
engines, locks, the other ports and the parameters are kept. -/
structure Posts (s : State) (es : List Posted) (u : State) : Prop where
  cfg : u.cfg = s.cfg
  issuer : u.issuer = s.issuer
  ports : OtherPortsKept s.issuer s u
  engines : ∀ q, u.engine q = s.engine q
  locks : ∀ c, u.lockOf c = s.lockOf c
  counts : ∀ b, u.cntOf b = s.cntOf b ∨ u.cntOf b ≤ s.cfg.cap
  buffers : ∀ q, u.wb q = s.wb q ++ if q.port = s.issuer then es else []

/-- Nothing is posted where ports, core ports and locks are kept. -/
theorem Posts.nothing (hc : u.cfg = s.cfg := by rfl) (hi : u.issuer = s.issuer := by rfl)
    (hp : u.port = s.port := by rfl) (hcore : u.core = s.core := by rfl) (hl : u.lockOf = s.lockOf := by rfl)
    (hn : ∀ b, u.cntOf b = s.cntOf b ∨ u.cntOf b ≤ s.cfg.cap := by exact fun _ => .inl rfl) : Posts s [] u where
  cfg := hc
  issuer := hi
  ports p _ := by rw [hp]
  engines q := by simp [State.engine, hcore]
  locks c := by rw [hl]
  counts := hn
  buffers q := by simp [State.wb, hcore]

theorem Posts.refl (s : State) : Posts s [] s := .nothing

/-- A change of the issuing port comes under the same effects. -/
theorem Posts.setPort (h : Posts s es u) {p : Port} (hp : p = s.issuer) (ps : PortState) :
    Posts s es (u.setPort p ps) where
  cfg := h.cfg
  issuer := h.issuer
  ports p' hp' := by simp [hp, hp', h.ports p' hp']
  engines := h.engines
  locks := h.locks
  counts := h.counts
  buffers := h.buffers

theorem Posts.setEsr (h : Posts s es u) (e : Esr) : Posts s es { u with esr := e } :=
  ⟨h.cfg, h.issuer, h.ports, h.engines, h.locks, h.counts, h.buffers⟩

/-- A count that fits a buffer is set. -/
theorem Posts.setCnt (h : Posts s es u) {b n : Nat} (hn : n ≤ s.cfg.cap) : Posts s es (u.setCnt b n) where
  cfg := h.cfg
  issuer := h.issuer
  ports := h.ports
  engines := h.engines
  locks := h.locks
  counts b' := by
    by_cases hb : b' = b
    · exact .inr (by simpa [hb] using hn)
    · simpa [hb] using h.counts b'
  buffers := h.buffers

/-- Entries written to memory in order, none of them posted (R70). -/
theorem Posts.commit (h : Posts s [] u) (l : List Posted) : Posts s [] (l.foldl State.commitPosted u) := by
  induction l generalizing u with
  | nil => exact h
  | cons e l ih =>
    refine ih ?_
    cases e <;> exact ⟨h.cfg, h.issuer, h.ports, h.engines, h.locks, h.counts, h.buffers⟩

/-- The entries `es` may be posted on the issuing port: their cells exist, and the buffer has the room. -/
structure Postable (s : State) (es : List Posted) : Prop where
  inRange : ∀ e, e ∈ es → Params.entryInRange s.cfg e = true
  room : ∀ q d, q.port = s.issuer → s.cfg.wbDepth = some d → es ≠ [] → (s.wb q).length + es.length ≤ d

theorem Postable.nil (s : State) : Postable s [] := ⟨by simp, by simp⟩

/-- A posted write that is not held finds the room its buffer needs (R70). -/
theorem Postable.of_portPostHold (hr : ∀ e, e ∈ es → Params.entryInRange s.cfg e = true)
    (hp : Params.postable s.cfg es.length = true) (hh : s.portPostHold s.issuer es.length = false) :
    Postable s es := by
  refine ⟨hr, fun q d hq hd _ => ?_⟩
  simp only [Params.postable, hd, decide_eq_true_eq] at hp
  simpa [State.portPostHold, ← hq, State.postHold, hd, hp] using hh

/-- The writes of a posted command that is not held: appended, or written in order and none posted (R70). -/
theorem Posts.portPost (h : Posts s [] u) (hc : s.issuer.core.isSome = true)
    (hr : ∀ e, e ∈ es → Params.entryInRange s.cfg e = true)
    (hh : s.portPostHold s.issuer es.length = false) :
    ∃ es', Posts s es' (u.portPost s.issuer es) ∧ Postable s es' := by
  obtain ⟨q, hq⟩ := Port.eq_port_of_core hc
  have hpost : u.portPost s.issuer es = u.post q es := by simp [State.portPost, hq]
  rw [hpost]
  rcases u.post_cases q es with ⟨hp, he⟩ | ⟨-, he⟩ <;> rw [he]
  · refine ⟨es, ?_, .of_portPostHold hr (h.cfg ▸ hp) hh⟩
    refine ⟨h.cfg, h.issuer, h.ports, fun q' => by simp [h.engines], h.locks, h.counts, fun q' => ?_⟩
    by_cases hq' : q' = q <;> simp [hq', hq, h.buffers]
  · exact ⟨[], h.commit es, .nil s⟩

/-! ### The outcomes of a command -/

/-- What evaluating the word `w` can do: hold and change nothing (R13); complete, with `es` posted; or, for a BQRUN
whose port has nothing posted and whose channel is free, start the engine and stay outstanding (R203). -/
inductive WordEffect (w : Word) (s : State) : State → Prop
  | held : WordEffect w s s
  | completed {es : List Posted} {t : State} (posts : Posts s es t) (postable : Postable s es)
      (done : (t.port s.issuer).outstanding = none) : WordEffect w s t
  | started {ra : Reg} {c : Fin 2} {b : Nat} {q : CorePort} (word : decode w = .ok (.bqrun ra c))
      (port : q.port = s.issuer) (inRange : b < s.cfg.nbuf) (nonempty : s.cntOf b ≠ 0) (fenced : s.wb q = [])
      (unlocked : s.lockOf c = none) : WordEffect w s (s.startRun q.port b c)

theorem WordEffect.respond (h : Posts s es u) (hp : Postable s es) {p : Port} (hi : p = s.issuer) (c : Cond)
    (v : Word) : WordEffect w s (u.respond p c v) :=
  .completed (h.setPort hi _) hp (by simp [State.port_respond, hi])

theorem WordEffect.okay (h : Posts s es u) (hp : Postable s es) (v : Word) : WordEffect w s (u.okay v) :=
  .respond h hp h.issuer _ v

theorem WordEffect.answer (h : Posts s [] u) (rd : Reg) (v : Word) : WordEffect w s (u.answer rd v) :=
  .okay (h.setPort h.issuer _) (.nil s) v

theorem WordEffect.reject (c : SubCause) : WordEffect w s (s.reject c) :=
  .respond ((Posts.refl s).setEsr _) (.nil s) rfl _ _

theorem WordEffect.exhaust (h : Posts s [] u) (rd : Reg) : WordEffect w s (u.exhaust rd) :=
  .respond ((h.setEsr _).setPort h.issuer _) (.nil s) h.issuer _ _

theorem WordEffect.answerClamped (rd : Reg) (r : Int × Bool) : WordEffect w s (s.answerClamped rd r) := by
  rcases s.answerClamped_cases rd r with ⟨-, he⟩ | ⟨-, he⟩ <;> rw [he]
  · exact .respond ((((Posts.refl s).setEsr _).setPort rfl _).setPort rfl _) (.nil s) rfl _ _
  · exact .answer (.refl s) _ _

/-- An evaluation has the outcomes of its effects, if it can also be rejected or held. -/
theorem WordEffect.evaluate {checks : List (SubCause × Bool)} {hold : Bool}
    (h : s.evaluate checks hold u = .next t)
    (hu : firstFailed checks = none → hold = false → WordEffect w s u) : WordEffect w s t := by
  rcases s.evaluate_cases h with ⟨c, -, rfl⟩ | ⟨-, -, rfl⟩ | ⟨hc, hh, rfl⟩
  · exact .reject c
  · exact .held
  · exact hu hc hh

/-- Every check passes where none fails. -/
theorem firstFailed_eq_none {l : List (SubCause × Bool)} : firstFailed l = none ↔ ∀ x ∈ l, x.2 = true := by
  induction l with
  | nil => simp
  | cons x l ih =>
    obtain ⟨c, b⟩ := x
    cases b <;> simp [ih]

/-- The outcomes of a posted command: its checks let core ports and existing cells pass, and its hold is R70's. -/
theorem WordEffect.posted {checks : List (SubCause × Bool)} {m : Nat} {v : Word}
    (h : s.evaluate checks (s.portPostHold s.issuer m) ((u.portPost s.issuer es).okay v) = .next t)
    (hm : es.length = m) (hu : Posts s [] u)
    (hc : firstFailed checks = none →
      s.issuer.core.isSome = true ∧ ∀ e, e ∈ es → Params.entryInRange s.cfg e = true) : WordEffect w s t :=
  .evaluate h fun hf hh =>
    have ⟨hcore, hr⟩ := hc hf
    have ⟨_, hposts, hpostable⟩ := hu.portPost hcore hr (hm ▸ hh)
    .okay hposts hpostable v

/-! ### Every command -/

/-- An outcome that is the next state for sure. -/
theorem WordEffect.of_next (h : Host.Outcome.next u = (Host.Outcome.next t : Result)) (hu : WordEffect w s u) :
    WordEffect w s t := by
  cases h
  exact hu

/-- A CSR write posts nothing (R117). -/
theorem Posts.csrWrite (v : Word) (r : Csr) : Posts s [] (s.csrWrite s.issuer v r) := by
  cases r with
  | status =>
    show Posts s [] (if v.getLsbD 8 then s.clearQf s.issuer else s)
    split
    · exact (Posts.refl s).setPort rfl _
    · exact .refl s
  | esr => exact .nothing
  | overrun | underrun | satcnt | ie => exact .nothing
  | cfg0 | cfg1 | eqctl | poolstat | barstat | bufstat => exact .refl s

/-- A buffer taken posts nothing, and its count is 0 (R161). -/
theorem Posts.acquire (b : Nat) (rest : List Nat) : Posts s [] (s.acquire b rest) :=
  have hown : Posts s [] (({ s with freeq := rest } : State).setOwn b .prod) := .nothing
  hown.setCnt (Nat.zero_le _)

theorem execCsrrd_effect {rd : Reg} {csr : Half} (h : execCsrrd rd csr s = .next t) : WordEffect w s t := by
  unfold execCsrrd at h
  split at h
  · exact .of_next h (.reject .csr)
  · exact .of_next h (.answer (.refl s) rd _)

theorem execCsrwr_effect {rs : Reg} {csr : Half} (h : execCsrwr rs csr s = .next t) : WordEffect w s t := by
  unfold execCsrwr at h
  split at h
  · exact .of_next h (.reject .csr)
  · next r _ => exact .evaluate h fun _ _ => .okay (.csrWrite _ r) (.nil s) 0

theorem execTake_effect {rd : Reg} (h : execTake rd s = .next t) : WordEffect w s t := by
  refine .evaluate h fun _ _ => ?_
  split
  · exact .exhaust .nothing rd
  · exact .answer (.acquire _ _) rd _

theorem execTakeb_effect {rd : Reg} (h : execTakeb rd s = .next t) : WordEffect w s t := by
  refine .evaluate h fun _ _ => ?_
  split
  · exact .held
  · exact .answer (.acquire _ _) rd _

theorem execCtake_effect {rd : Reg} (h : execCtake rd s = .next t) : WordEffect w s t := by
  refine .evaluate h fun _ _ => ?_
  split
  · exact .exhaust .nothing rd
  · exact .answer .nothing rd _

theorem execSetcnt_effect {ra rb : Reg} (h : execSetcnt ra rb s = .next t) : WordEffect w s t :=
  .evaluate h fun hf _ => by
    simp only [firstFailed_eq_none, List.forall_mem_cons, decide_eq_true_eq] at hf
    obtain ⟨-, ⟨-, hn⟩, -⟩ := hf
    exact .okay ((Posts.refl s).setCnt hn) (.nil s) 0

theorem execSts_effect {rs ra rb : Reg} (h : execSts rs ra rb s = .next t) : WordEffect w s t := by
  refine .posted h rfl (.refl s) fun hf => ?_
  simp only [firstFailed_eq_none, List.forall_mem_cons] at hf
  obtain ⟨hcore, hr, -⟩ := hf
  exact ⟨hcore, by simpa [Params.entryInRange] using hr⟩

theorem execStf_effect {rs ra rb : Reg} (h : execStf rs ra rb s = .next t) : WordEffect w s t := by
  refine .posted h rfl (.refl s) fun hf => ?_
  simp only [firstFailed_eq_none, List.forall_mem_cons, Params.frameInRange, decide_eq_true_eq] at hf
  obtain ⟨hcore, ⟨hb, hi⟩, -⟩ := hf
  simp only [List.forall_mem_cons, Params.entryInRange, Params.smpInRange, decide_eq_true_eq]
  exact ⟨hcore, by omega, by omega, by simp⟩

theorem execCoefwr_effect {rs : Reg} {k j : Nat} (h : execCoefwr rs k j s = .next t) : WordEffect w s t := by
  refine .posted h rfl .nothing fun hf => ?_
  simp only [firstFailed_eq_none, List.forall_mem_cons] at hf
  obtain ⟨hcore, hr, -⟩ := hf
  exact ⟨hcore, by simpa [Params.entryInRange] using hr⟩

theorem execFlush_effect (h : execFlush s = .next t) : WordEffect w s t :=
  .evaluate h fun _ _ => .okay (.nothing (hn := fun _ => .inr (Nat.zero_le _))) (.nil s) 0

theorem execFence_effect (h : execFence s = .next t) : WordEffect w s t :=
  .evaluate h fun _ _ => .okay (.refl s) (.nil s) 0

theorem execBqrun_effect {ra : Reg} {c : Fin 2} (hd : decode w = .ok (.bqrun ra c))
    (h : execBqrun ra c s = .next t) : WordEffect w s t := by
  refine .evaluate h fun hf hh => ?_
  simp only [firstFailed_eq_none, List.forall_mem_cons, decide_eq_true_eq] at hf
  obtain ⟨hcore, hr, -⟩ := hf
  obtain ⟨q, hq⟩ := Port.eq_port_of_core hcore
  simp only [Bool.or_eq_false_iff, Bool.not_eq_false', Option.isSome_eq_false_iff, Option.isNone_iff_eq_none, hq,
    State.fenced_port, decide_eq_true_eq] at hh
  obtain ⟨⟨hfenced, -⟩, hlock⟩ := hh
  split
  · exact .okay (.refl s) (.nil s) 0
  · next hrun =>
    rw [hq]
    exact .started hd hq.symm hr (fun h0 => hrun (.inr h0)) hfenced hlock

/-- Every command has the outcomes of `WordEffect`. -/
theorem exec_effect {i : Instr} (hd : decode w = .ok i) (h : exec i s = .next t) : WordEffect w s t := by
  cases i with
  | nop => exact .of_next h (.okay (.refl s) (.nil s) 0)
  | get => exact .of_next h (.okay (.refl s) (.nil s) _)
  | ldi rd | ldih rd | mov rd | q15to31 rd | q31to15 rd | mulh rd | asr32 rd =>
    exact .of_next h (.answer (.refl s) rd _)
  | sadd32 rd | ssub32 rd | sadd16 rd | ssub16 rd | sneg32 rd | sneg16 rd | smul31 rd | smul15 rd | mulhs rd
  | sshl32 rd | sat16 rd => exact .of_next h (.answerClamped rd _)
  | csrrd => exact execCsrrd_effect h
  | csrwr => exact execCsrwr_effect h
  | take => exact execTake_effect h
  | takeb => exact execTakeb_effect h
  | ctake => exact execCtake_effect h
  | setcnt => exact execSetcnt_effect h
  | sts => exact execSts_effect h
  | stf => exact execStf_effect h
  | coefwr => exact execCoefwr_effect h
  | flush => exact execFlush_effect h
  | fence => exact execFence_effect h
  | bqrun => exact execBqrun_effect hd h
  | getcnt rd | lds rd | ldf rd | coefrd rd | strd rd =>
    exact .evaluate h fun _ _ => .answer (.refl s) rd _
  | accept rd =>
    exact .evaluate h fun _ _ => .answer .nothing rd _
  | give | cgive | commit | eqen | fork | done | join =>
    exact .evaluate h fun _ _ =>
      .okay .nothing (.nil s) 0

/-- Every word has the outcomes of `WordEffect`; a reserved one is rejected (R99). -/
theorem runWord_effect (h : runWord w s = .next t) : WordEffect w s t := by
  rcases runWord_cases h with ⟨i, hd, he⟩ | ⟨-, rfl⟩
  · exact exec_effect hd he
  · exact .reject .reserved

/-- A port's step changes nothing, or presents its next word, its engine idle, with the outcomes of that word. -/
theorem State.portStep_effect {p : Port} (h : s.portStep p = .next t) :
    t = s ∨ s.engineBusy p = false ∧
      ∃ w, (s.port p).nextWord = some w ∧ WordEffect w (s.present p w) t := by
  rcases State.portStep_cases h with ⟨-, rfl⟩ | ⟨-, -, rfl⟩ | ⟨hb, w, hw, hr⟩
  · exact .inl rfl
  · exact .inl rfl
  · exact .inr ⟨hb, w, hw, runWord_effect hr⟩

end Sys2Proof.Machine
end

section
/-! PROOFS. Every step of every agent keeps the engine invariant. -/

namespace Sys2Proof.Machine

open Sys2Proof

variable {s u t : State} {q : CorePort} {r r' : Run} {w : Word}

/-! ### Changes the engine invariant does not see -/

/-- `u` reads as `s` in all that the engine invariant speaks of: memories and the schedule may differ. -/
structure SameRuns (s u : State) : Prop where
  cfg : u.cfg = s.cfg
  counts : ∀ b, u.cntOf b = s.cntOf b
  engines : ∀ q, u.engine q = s.engine q
  locks : ∀ c, u.lockOf c = s.lockOf c
  buffers : ∀ q, u.wb q = s.wb q
  ports : ∀ p, u.port p = s.port p

theorem SameRuns.refl (s : State) : SameRuns s s :=
  ⟨rfl, fun _ => rfl, fun _ => rfl, fun _ => rfl, fun _ => rfl, fun _ => rfl⟩

theorem SameRuns.withSched (s : State) (l : List Agent) : SameRuns s { s with sched := l } :=
  ⟨rfl, fun _ => rfl, fun _ => rfl, fun _ => rfl, fun _ => rfl, fun _ => rfl⟩

theorem SameRuns.setSmp (h : SameRuns s u) (b i : Nat) (v : Half) : SameRuns s (u.setSmp b i v) :=
  ⟨h.cfg, h.counts, h.engines, h.locks, h.buffers, h.ports⟩

theorem SameRuns.setDelay (h : SameRuns s u) (c : Fin 2) (k : Nat) (d : Delay) : SameRuns s (u.setDelay c k d) :=
  ⟨h.cfg, h.counts, h.engines, h.locks, h.buffers, h.ports⟩

theorem SameRuns.noteClamp (h : SameRuns s u) (clamped : Bool) : SameRuns s (u.noteClamp clamped) := by
  cases clamped
  · exact h
  · exact ⟨h.cfg, h.counts, h.engines, h.locks, h.buffers, h.ports⟩

theorem SameRuns.commitPosted (s : State) (e : Posted) : SameRuns s (s.commitPosted e) := by
  cases e <;> exact ⟨rfl, fun _ => rfl, fun _ => rfl, fun _ => rfl, fun _ => rfl, fun _ => rfl⟩

theorem RunInv.of_same (hi : RunInv s) (h : SameRuns s u) : RunInv u where
  counts b := by simpa only [h.counts, h.cfg] using hi.counts b
  runs q r hr := by
    simpa only [h.cfg, h.locks, h.buffers, h.ports] using hi.runs q r (h.engines q ▸ hr)
  locks c q hl := by simpa only [h.engines] using hi.locks c q (h.locks c ▸ hl)
  entries q e he := by simpa only [h.cfg] using hi.entries q e (h.buffers q ▸ he)
  depth q d hd := by simpa only [h.buffers] using hi.depth q d (h.cfg ▸ hd)

/-! ### The step of a port -/

/-- Presenting a word on a port whose engine is idle. -/
theorem RunInv.present (hi : RunInv s) {p : Port} (hb : s.engineBusy p = false) (w : Word) :
    RunInv (s.present p w) where
  counts := hi.counts
  runs q r hr := by
    have hp : q.port ≠ p := State.ne_port_of_run hb hr
    simpa [hp] using hi.runs q r hr
  locks := hi.locks
  entries := hi.entries
  depth := hi.depth

/-- A command that completes on a port whose engine is idle. -/
theorem RunInv.completed (hi : RunInv s) (hb : s.engineBusy s.issuer = false) {es : List Posted}
    (h : Posts s es t) (hp : Postable s es) : RunInv t where
  counts b := by
    rcases h.counts b with hn | hn
    · rw [hn, h.cfg]; exact hi.counts b
    · rw [h.cfg]; exact hn
  runs q r hr := by
    rw [h.engines] at hr
    have hq : q.port ≠ s.issuer := State.ne_port_of_run hb hr
    simpa [h.cfg, h.locks, h.buffers, h.ports _ hq, hq] using hi.runs q r hr
  locks c q hl := by simpa only [h.engines] using hi.locks c q (h.locks c ▸ hl)
  entries q e he := by
    rw [h.buffers, List.mem_append] at he
    rw [h.cfg]
    rcases he with he | he
    · exact hi.entries q e he
    · split at he
      · exact hp.inRange e he
      · cases he
  depth q d hd := by
    rw [h.cfg] at hd
    have hold := hi.depth q d hd
    rw [h.buffers, List.length_append]
    split
    · next hq =>
      by_cases hes : es = []
      · simpa [hes] using hold
      · exact hp.room q d hq hd hes
    · simpa using hold

/-- A BQRUN that starts its engine. -/
theorem RunInv.startRun (hi : RunInv s) {ra : Reg} {c : Fin 2} {b : Nat} (hidle : s.engine q = .idle)
    (ho : (s.port q.port).outstanding = some w) (hd : decode w = .ok (.bqrun ra c)) (hb : b < s.cfg.nbuf)
    (hn : s.cntOf b ≠ 0) (hk : 0 < s.cfg.nband) (hw : s.wb q = []) (hl : s.lockOf c = none) :
    RunInv (s.startRun q.port b c) := by
  have hs : s.startRun q.port b c = (s.setLock c (some q)).setEngine q
      (.run { b := b, c := c, n := s.cntOf b, i := 0, k := 0, v := 0, sat := false }) := by
    simp [State.startRun]
  rw [hs]
  refine ⟨hi.counts, fun q' r hr => ?_, fun c' q' hl' => ?_, fun q' e he => ?_, fun q' d hd' => ?_⟩
  · by_cases hq : q' = q
    · subst hq
      obtain rfl : _ = r := by simpa using hr
      simpa using ⟨hb, Nat.pos_of_ne_zero hn, hi.counts b, hk, hw, w, ho, ra, hd⟩
    · have hold := hi.runs q' r (by simpa [hq] using hr)
      have hc : r.c ≠ c := by
        rintro rfl
        simp [hl] at hold
      simpa [hc] using hold
  · by_cases hc : c' = c
    · subst hc
      obtain rfl : q = q' := by simpa using hl'
      simp
    · obtain ⟨r, hr, hrc⟩ := hi.locks c' q' (by simpa [hc] using hl')
      have hq : q' ≠ q := by
        rintro rfl
        simp [hidle] at hr
      exact ⟨r, by simpa [hq] using hr, hrc⟩
  · exact hi.entries q' e (by simpa using he)
  · simpa using hi.depth q' d hd'

/-- The outcomes of a word on a port whose engine is idle. -/
theorem RunInv.wordEffect (hi : RunInv s) (hk : 0 < s.cfg.nband) (hb : s.engineBusy s.issuer = false)
    (ho : (s.port s.issuer).outstanding = some w) (h : WordEffect w s t) : RunInv t := by
  cases h with
  | held => exact hi
  | completed posts postable _ => exact hi.completed hb posts postable
  | started word port inRange nonempty fenced unlocked =>
    rw [← port] at hb ho
    exact hi.startRun (by simpa [State.engineBusy_port] using hb) ho word inRange nonempty hk fenced unlocked

theorem RunInv.portStep (hi : RunInv s) (hk : 0 < s.cfg.nband) {p : Port} (h : s.portStep p = .next t) :
    RunInv t := by
  rcases State.portStep_effect h with rfl | ⟨hb, w, -, he⟩
  · exact hi
  · exact (hi.present hb w).wordEffect hk hb (by simp) he

/-! ### The step of a drain -/

/-- The oldest entry of a buffer leaves it. -/
theorem RunInv.setWb_tail (hi : RunInv s) {e : Posted} {rest : List Posted} (hw : s.wb q = e :: rest) :
    RunInv (s.setWb q rest) where
  counts := hi.counts
  runs q' r hr := by
    have hold := hi.runs q' r (by simpa using hr)
    have hq : q' ≠ q := by
      rintro rfl
      simp [hw] at hold
    simpa [hq] using hold
  locks c q' hl := by simpa using hi.locks c q' hl
  entries q' e' he := by
    by_cases hq : q' = q
    · subst hq
      exact hi.entries q' e' (by simp_all)
    · exact hi.entries q' e' (by simpa [hq] using he)
  depth q' d hd := by
    have hold := hi.depth q' d hd
    by_cases hq : q' = q
    · subst hq
      simp only [hw, List.length_cons] at hold
      simpa using Nat.le_of_succ_le hold
    · simpa [hq] using hold

/-- Every posted entry can be drained (R71). -/
theorem RunInv.drainStep_cons (hi : RunInv s) {e : Posted} {rest : List Posted} (hw : s.wb q = e :: rest) :
    s.drainStep q = .next ((s.setWb q rest).commitPosted e) := by
  have hr : Params.entryInRange s.cfg e = true := hi.entries q e (by simp [hw])
  simp [State.drainStep, hw, hr]

theorem RunInv.drainStep (hi : RunInv s) (h : s.drainStep q = .next t) : RunInv t := by
  rcases State.drainStep_cases h with ⟨-, rfl⟩ | ⟨e, rest, hw, -, rfl⟩
  · exact hi
  · exact (hi.setWb_tail hw).of_same (.commitPosted _ e)

/-! ### The step of an engine -/

/-- The place in its block where a stage step leaves a run that goes on: the next band, or band 0 of the next frame
(R206). -/
inductive Run.Next (nband : Nat) (r : Run) : Run → Prop
  | band (hk : r.k + 1 < nband) (v : Word) (sat : Bool) : Run.Next nband r { r with k := r.k + 1, v := v, sat := sat }
  | frame (hk : nband ≤ r.k + 1) (hi : r.i + 1 < r.n) (sat : Bool) :
    Run.Next nband r { r with i := r.i + 1, k := 0, v := 0, sat := sat }

/-- A stage step writes memories, and then the run goes on or ends. -/
theorem State.stageStep_cases (s : State) (q : CorePort) (r : Run) :
    ∃ u, SameRuns s u ∧
      ((∃ r', Run.Next s.cfg.nband r r' ∧ s.stageStep q r = u.setEngine q (.run r')) ∨
        ∃ sat, s.stageStep q r = u.finishRun q r.c sat) := by
  have hnote := ((SameRuns.refl s).setDelay r.c r.k (s.stageOut r).delay).noteClamp (s.stageOut r).clamped
  have hsmp := hnote.setSmp r.b (2 * r.i + r.c.val) (q31ToQ15 (s.stageOut r).y)
  by_cases hk : r.k + 1 < s.cfg.nband
  · exact ⟨_, hnote, .inl ⟨_, .band hk (s.stageOut r).y (r.sat || (s.stageOut r).clamped), by
      simp only [State.stageStep, if_pos hk]⟩⟩
  · by_cases hi : r.i + 1 < r.n
    · exact ⟨_, hsmp, .inl ⟨_, .frame (Nat.le_of_not_lt hk) hi (r.sat || (s.stageOut r).clamped), by
        simp only [State.stageStep, if_neg hk, if_pos hi]⟩⟩
    · exact ⟨_, hsmp, .inr ⟨_, by simp only [State.stageStep, if_neg hk, if_neg hi]; rfl⟩⟩

/-! What the end of a run leaves (R208). -/

section FinishRun
variable (s : State) (q : CorePort) (c : Fin 2) (sat : Bool)

@[simp] theorem State.finishRun_cfg : (s.finishRun q c sat).cfg = s.cfg := by cases sat <;> rfl

@[simp] theorem State.cntOf_finishRun (b : Nat) : (s.finishRun q c sat).cntOf b = s.cntOf b := by
  cases sat <;> rfl

@[simp] theorem State.engine_finishRun (q' : CorePort) :
    (s.finishRun q c sat).engine q' = if q' = q then .idle else s.engine q' := by
  cases sat <;> simp [State.finishRun]

@[simp] theorem State.lockOf_finishRun (c' : Fin 2) :
    (s.finishRun q c sat).lockOf c' = if c' = c then none else s.lockOf c' := by
  cases sat <;> simp [State.finishRun]

@[simp] theorem State.wb_finishRun (q' : CorePort) : (s.finishRun q c sat).wb q' = s.wb q' := by
  cases sat <;> simp [State.finishRun]

theorem State.port_finishRun {p : Port} (hp : p ≠ q.port) : (s.finishRun q c sat).port p = s.port p := by
  cases sat <;> simp [State.finishRun, State.port_respond, State.port_raiseQf, hp]

end FinishRun

/-- A run that goes on. -/
theorem RunInv.setEngine_next (hi : RunInv s) (hr : s.engine q = .run r) (hn : Run.Next s.cfg.nband r r') :
    RunInv (s.setEngine q (.run r')) := by
  obtain ⟨hb, hin, hcap, hk, hl, hw, w, ra, ho, hd⟩ := hi.runs q r hr
  have hc : r'.c = r.c := by cases hn <;> rfl
  refine ⟨hi.counts, fun q' r₁ hr₁ => ?_, fun c q' hl => ?_, fun q' e he => ?_, fun q' d hd => ?_⟩
  · by_cases hq : q' = q
    · subst hq
      obtain rfl : r' = r₁ := by simpa using hr₁
      cases hn with
      | band hk' => simpa using ⟨hb, hin, hcap, hk', hl, hw, w, ho, ra, hd⟩
      | frame _ hi' => simpa using ⟨hb, hi', hcap, Nat.zero_lt_of_lt hk, hl, hw, w, ho, ra, hd⟩
    · simpa using hi.runs q' r₁ (by simpa [hq] using hr₁)
  · obtain ⟨r₁, hr₁, hrc⟩ := hi.locks c q' hl
    by_cases hq : q' = q
    · subst hq
      obtain rfl : r = r₁ := by simpa [hr] using hr₁
      exact ⟨r', by simp, hc.trans hrc⟩
    · exact ⟨r₁, by simpa [hq] using hr₁, hrc⟩
  · exact hi.entries q' e (by simpa using he)
  · simpa using hi.depth q' d hd

/-- A run that ends. -/
theorem RunInv.finishRun (hi : RunInv s) (hr : s.engine q = .run r) (sat : Bool) :
    RunInv (s.finishRun q r.c sat) := by
  refine ⟨fun b => by simpa using hi.counts b, fun q' r₁ hr₁ => ?_, fun c q' hl => ?_, fun q' e he => ?_,
    fun q' d hd => ?_⟩
  · have hq : q' ≠ q := by
      rintro rfl
      simp at hr₁
    have hold := hi.runs q' r₁ (by simpa [hq] using hr₁)
    have hc : r₁.c ≠ r.c := by
      intro hc
      obtain ⟨-, -, -, -, hl, -⟩ := hi.runs q r hr
      obtain ⟨-, -, -, -, hl₁, -⟩ := hold
      rw [hc, hl] at hl₁
      exact hq (Option.some.inj hl₁).symm
    have hp : q'.port ≠ q.port := by simpa using hq
    simpa [hc, State.port_finishRun _ _ _ _ hp] using hold
  · have hc : c ≠ r.c := by
      rintro rfl
      simp at hl
    obtain ⟨r₁, hr₁, hrc⟩ := hi.locks c q' (by simpa [hc] using hl)
    have hq : q' ≠ q := by
      rintro rfl
      rw [hr] at hr₁
      cases hr₁
      exact hc hrc.symm
    exact ⟨r₁, by simpa [hq] using hr₁, hrc⟩
  · simpa using hi.entries q' e (by simpa using he)
  · simpa using hi.depth q' d (by simpa using hd)

/-- The cells of a run's next stage step exist. -/
theorem RunInv.runInRange (hi : RunInv s) (hr : s.engine q = .run r) : Params.runInRange s.cfg r = true := by
  obtain ⟨hb, hin, hcap, hk, -⟩ := hi.runs q r hr
  have hc := r.c.isLt
  simp only [Params.runInRange, Params.smpInRange, Bool.and_eq_true, decide_eq_true_eq]
  omega

/-- A running engine takes its stage step (R206). -/
theorem RunInv.engineStep_run (hi : RunInv s) (hr : s.engine q = .run r) :
    s.engineStep q = .next (s.stageStep q r) := by
  simp [State.engineStep, hr, hi.runInRange hr]

theorem RunInv.stageStep (hi : RunInv s) (hr : s.engine q = .run r) : RunInv (s.stageStep q r) := by
  obtain ⟨u, hu, ⟨r', hn, he⟩ | ⟨sat, he⟩⟩ := s.stageStep_cases q r
  all_goals
    rw [he]
    have hiu := hi.of_same hu
    have hru : u.engine q = .run r := (hu.engines q).trans hr
  · exact hiu.setEngine_next hru (hu.cfg.symm ▸ hn)
  · exact hiu.finishRun hru sat

theorem RunInv.engineStep (hi : RunInv s) (h : s.engineStep q = .next t) : RunInv t := by
  rcases State.engineStep_cases h with ⟨-, rfl⟩ | ⟨r, hr, -, rfl⟩
  · exact hi
  · exact hi.stageStep hr

/-! ### Every step -/

theorem RunInv.agentStep (hi : RunInv s) (hl : s.cfg.legal = true) {a : Agent} (h : s.agentStep a = .next t) :
    RunInv t := by
  cases a with
  | port p => exact hi.portStep (by simp only [Params.legal, decide_eq_true_eq] at hl; omega) h
  | drain q => exact hi.drainStep h
  | engine q => exact hi.engineStep h

/-- A step keeps the engine invariant. -/
theorem RunInv.step (hi : RunInv s) (h : step s = .next t) : RunInv t := by
  obtain ⟨hl, ⟨-, rfl⟩ | ⟨g, rest, -, hg⟩⟩ := step_cases h
  · exact hi
  · exact (hi.of_same (.withSched s rest)).agentStep hl hg

end Sys2Proof.Machine
end

section
/-! PROOFS. Progress under weak fairness (R14): what each agent does to a posted-write buffer and to an engine, the
descent that weak fairness forces, and the three progress claims. -/

namespace Sys2Proof.Machine

open Sys2Proof

variable {s t : State} {q : CorePort} {r r' : Run}

/-! ### What a step of an agent does to a buffer and to an engine -/

/-- No command changes the parameters. -/
theorem WordEffect.cfg {w : Word} (h : WordEffect w s t) : t.cfg = s.cfg := by
  cases h with
  | held => rfl
  | completed posts => exact posts.cfg
  | started => simp [State.startRun]

/-- A command appends to the buffer of its own port, and only when it completes. -/
theorem WordEffect.wb {w : Word} (h : WordEffect w s t) (q : CorePort) :
    ∃ more, t.wb q = s.wb q ++ more ∧ (more ≠ [] → (t.port q.port).outstanding = none) := by
  cases h with
  | held => exact ⟨[], by simp⟩
  | @completed es _ posts _ done =>
    refine ⟨_, posts.buffers q, fun hne => ?_⟩
    split at hne
    · next hq => exact hq ▸ done
    · exact absurd rfl hne
  | started => exact ⟨[], by simp [State.startRun]⟩

/-- A command leaves a running engine alone. -/
theorem WordEffect.engine {w : Word} (h : WordEffect w s t) (hb : s.engineBusy s.issuer = false)
    (hr : s.engine q = .run r) : t.engine q = .run r := by
  cases h with
  | held => exact hr
  | completed posts => exact (posts.engines q).trans hr
  | @started _ _ _ q' _ port =>
    have hq : q ≠ q' := by
      rintro rfl
      exact State.ne_port_of_run hb hr port
    simpa [State.startRun, hq] using hr

theorem State.cfg_stageStep (s : State) (q : CorePort) (r : Run) : (s.stageStep q r).cfg = s.cfg := by
  obtain ⟨u, hu, ⟨r', -, he⟩ | ⟨sat, he⟩⟩ := s.stageStep_cases q r <;> simp [he, hu.cfg]

theorem State.wb_stageStep (s : State) (q : CorePort) (r : Run) (q' : CorePort) :
    (s.stageStep q r).wb q' = s.wb q' := by
  obtain ⟨u, hu, ⟨r', -, he⟩ | ⟨sat, he⟩⟩ := s.stageStep_cases q r <;> simp [he, hu.buffers]

theorem State.engine_stageStep_of_ne (s : State) (r : Run) {q' : CorePort} (hq : q' ≠ q) :
    (s.stageStep q r).engine q' = s.engine q' := by
  obtain ⟨u, hu, ⟨r', -, he⟩ | ⟨sat, he⟩⟩ := s.stageStep_cases q r <;> simp [he, hu.engines, hq]

/-- A stage step moves its run on or ends it. -/
theorem State.engine_stageStep (s : State) (q : CorePort) (r : Run) :
    (∃ r', Run.Next s.cfg.nband r r' ∧ (s.stageStep q r).engine q = .run r') ∨
      (s.stageStep q r).engine q = .idle := by
  obtain ⟨u, -, ⟨r', hn, he⟩ | ⟨sat, he⟩⟩ := s.stageStep_cases q r
  · exact .inl ⟨r', hn, by simp [he]⟩
  · exact .inr (by simp [he])

/-- No step changes the parameters. -/
theorem State.agentStep_cfg {a : Agent} (h : s.agentStep a = .next t) : t.cfg = s.cfg := by
  cases a with
  | port p =>
    rcases State.portStep_effect h with rfl | ⟨-, w, -, he⟩
    · rfl
    · exact he.cfg
  | drain q =>
    rcases State.drainStep_cases h with ⟨-, rfl⟩ | ⟨e, rest, -, -, rfl⟩
    · rfl
    · exact (SameRuns.commitPosted _ e).cfg
  | engine q =>
    rcases State.engineStep_cases h with ⟨-, rfl⟩ | ⟨r, -, -, rfl⟩
    · rfl
    · exact s.cfg_stageStep q r

/-- Only its drain takes entries out of a buffer; every other agent appends at most, and only by completing the
command of its port. -/
theorem State.agentStep_wb {a : Agent} (h : s.agentStep a = .next t) (ha : a ≠ .drain q) :
    ∃ more, t.wb q = s.wb q ++ more ∧ (more ≠ [] → (t.port q.port).outstanding = none) := by
  have kept {t : State} (he : t.wb q = s.wb q) :
      ∃ more, t.wb q = s.wb q ++ more ∧ (more ≠ [] → (t.port q.port).outstanding = none) :=
    ⟨[], by simp [he]⟩
  cases a with
  | port p =>
    rcases State.portStep_effect h with rfl | ⟨-, w, -, he⟩
    · exact kept rfl
    · simpa using he.wb q
  | drain q' =>
    rcases State.drainStep_cases h with ⟨-, rfl⟩ | ⟨e, rest, -, -, rfl⟩
    · exact kept rfl
    · have hq : q ≠ q' := fun hq => ha (by rw [hq])
      exact kept (by simp [(SameRuns.commitPosted _ e).buffers, hq])
  | engine q' =>
    rcases State.engineStep_cases h with ⟨-, rfl⟩ | ⟨r, -, -, rfl⟩
    · exact kept rfl
    · exact kept (s.wb_stageStep q' r q)

/-- A running engine is moved by its own steps alone. -/
theorem State.agentStep_engine {a : Agent} (h : s.agentStep a = .next t) (ha : a ≠ .engine q)
    (hr : s.engine q = .run r) : t.engine q = .run r := by
  cases a with
  | port p =>
    rcases State.portStep_effect h with rfl | ⟨hb, w, -, he⟩
    · exact hr
    · exact he.engine hb hr
  | drain q' =>
    rcases State.drainStep_cases h with ⟨-, rfl⟩ | ⟨e, rest, -, -, rfl⟩
    · exact hr
    · simpa [(SameRuns.commitPosted _ e).engines] using hr
  | engine q' =>
    rcases State.engineStep_cases h with ⟨-, rfl⟩ | ⟨r', -, -, rfl⟩
    · exact hr
    · have hq : q ≠ q' := fun hq => ha (by rw [hq])
      exact (s.engine_stageStep_of_ne r' hq).trans hr

/-! ### The stage steps a run has left (R206) -/

/-- The stage steps a run has still to take: `NBAND` for each frame left, less the bands done of this one. -/
def Run.stagesLeft (nband : Nat) (r : Run) : Nat := (r.n - r.i) * nband - r.k

/-- As `Run.stagesLeft`; an idle engine has none. -/
def Engine.stagesLeft (nband : Nat) : Engine → Nat
  | .idle => 0
  | .run r => r.stagesLeft nband

@[simp] theorem Engine.stagesLeft_run (nband : Nat) (r : Run) :
    (Engine.run r).stagesLeft nband = r.stagesLeft nband := rfl

/-- Each stage step leaves fewer to take. -/
theorem Run.Next.stagesLeft_lt {nband : Nat} (hn : Run.Next nband r r') (hi : r.i < r.n) (hk : r.k < nband) :
    r'.stagesLeft nband < r.stagesLeft nband := by
  obtain ⟨m, hm⟩ : ∃ m, r.n - r.i = m + 1 := ⟨r.n - r.i - 1, by omega⟩
  have hmul : (r.n - r.i) * nband = m * nband + nband := by rw [hm, Nat.succ_mul]
  cases hn with
  | band hk' => simp only [Run.stagesLeft, hmul]; omega
  | frame hk' hi' =>
    have hm' : r.n - (r.i + 1) = m := by omega
    simp only [Run.stagesLeft, hmul, hm']
    omega

/-! ### One step of a schedule -/

/-- The agent scheduled takes its step, or the state stays. -/
theorem State.under_succ_cases (s : State) (g : Nat → Agent) (n : Nat) :
    s.under g (n + 1) = s.under g n ∨
      ({ s.under g n with sched := [] } : State).agentStep (g n) = .next (s.under g (n + 1)) := by
  rw [State.under]
  split
  · next t ht =>
    obtain ⟨-, ⟨hs, -⟩ | ⟨a, rest, hs, ha⟩⟩ := step_cases ht
    · cases hs
    · cases hs
      exact .inr ha
  · exact .inl rfl

theorem State.under_cfg (s : State) (g : Nat → Agent) (n : Nat) : (s.under g n).cfg = s.cfg := by
  induction n with
  | zero => rfl
  | succ n ih =>
    rcases s.under_succ_cases g n with h | h
    · rw [h, ih]
    · exact (State.agentStep_cfg h).trans ih

/-- In a legal instance a step that the agent scheduled can take is taken. -/
theorem State.under_succ_of_agentStep {g : Nat → Agent} {n : Nat} (hl : s.cfg.legal = true)
    (h : ({ s.under g n with sched := [] } : State).agentStep (g n) = .next t) : s.under g (n + 1) = t := by
  have hln : (s.under g n).cfg.legal = true := by rw [s.under_cfg, hl]
  have hstep : step { s.under g n with sched := [g n] } = .next t :=
    (step_cons (s := { s.under g n with sched := [g n] }) hln rfl).trans h
  rw [State.under, hstep]

/-- Every state of a run meets the engine invariant, whatever the schedule the state itself carries. -/
theorem RunInv.under (hi : RunInv s) (g : Nat → Agent) (n : Nat) (l : List Agent) :
    RunInv { s.under g n with sched := l } := by
  refine RunInv.of_same ?_ (.withSched _ l)
  induction n with
  | zero => exact hi
  | succ n ih =>
    rw [State.under]
    split
    · next t ht => exact (ih.of_same (.withSched _ [g n])).step ht
    · exact ih

section Schedule

variable {g : Nat → Agent} {n : Nat}

/-- While its drain is not scheduled a buffer keeps its entries in order. -/
theorem State.wb_under_succ (hg : g n ≠ .drain q) :
    ∃ more, (s.under g (n + 1)).wb q = (s.under g n).wb q ++ more ∧
      (more ≠ [] → ((s.under g (n + 1)).port q.port).outstanding = none) := by
  rcases s.under_succ_cases g n with h | h
  · exact ⟨[], by simp [h]⟩
  · exact State.agentStep_wb (s := { s.under g n with sched := [] }) h hg

theorem State.engine_under_succ (hg : g n ≠ .engine q) (hr : (s.under g n).engine q = .run r) :
    (s.under g (n + 1)).engine q = .run r := by
  rcases s.under_succ_cases g n with h | h
  · rwa [h]
  · exact State.agentStep_engine h hg hr

variable (hi : RunInv s) (hl : s.cfg.legal = true)
include hi hl

/-- A drain that is scheduled takes the oldest entry out. -/
theorem RunInv.wb_under_drain {e : Posted} {rest : List Posted} (hg : g n = .drain q)
    (hw : (s.under g n).wb q = e :: rest) : (s.under g (n + 1)).wb q = rest := by
  have hin := hi.under g n []
  rw [State.under_succ_of_agentStep hl (by rw [hg]; exact hin.drainStep_cons hw)]
  simp [(SameRuns.commitPosted _ e).buffers]

/-- A running engine that is scheduled has fewer stage steps left after it. -/
theorem RunInv.stagesLeft_under_engine (hg : g n = .engine q) (hr : (s.under g n).engine q = .run r) :
    (s.under g (n + 1)).engine q = .idle ∨
      ((s.under g (n + 1)).engine q).stagesLeft s.cfg.nband < r.stagesLeft s.cfg.nband := by
  have hin := hi.under g n []
  rw [State.under_succ_of_agentStep hl (by rw [hg]; exact hin.engineStep_run hr)]
  obtain ⟨-, hlt, -, hk, -⟩ := hin.runs q r hr
  rcases State.engine_stageStep { s.under g n with sched := [] } q r with ⟨r', hn, he⟩ | he
  · rw [← s.under_cfg g n, he]
    exact .inr (hn.stagesLeft_lt hlt hk)
  · exact .inl he

end Schedule

/-! ### What weak fairness forces -/

section Fair

variable {g : Nat → Agent} (hf : WeaklyFair g s)
include hf

/-- An agent that is enabled until something is done, and whose steps lower a number that no other step raises,
gets it done. -/
theorem WeaklyFair.eventually (a : Agent) (done : Nat → Prop) (left : Nat → Nat)
    (henabled : ∀ n, ¬ done n → (s.under g n).enabled a = true)
    (hkeeps : ∀ n, ¬ done n → ¬ done (n + 1) → g n ≠ a → left (n + 1) ≤ left n)
    (hlowers : ∀ n, ¬ done n → ¬ done (n + 1) → g n = a → left (n + 1) < left n) : ∃ n, done n := by
  by_contra hnever
  push Not at hnever
  have hstep (n : Nat) : left (n + 1) ≤ left n := by
    by_cases hg : g n = a
    · exact (hlowers n (hnever n) (hnever _) hg).le
    · exact hkeeps n (hnever n) (hnever _) hg
  have hdescent (k : Nat) : ∀ n, left n ≠ k := by
    induction k using Nat.strong_induction_on with
    | _ k ih =>
      rintro n rfl
      obtain ⟨m, hm, hg⟩ := hf a n fun m _ => henabled m (hnever m)
      have hlt : left (m + 1) < left n :=
        (hlowers m (hnever m) (hnever _) hg).trans_le (antitone_nat_of_succ_le hstep hm)
      exact ih _ hlt (m + 1) rfl
  exact hdescent _ 0 rfl

/-- The drain of a buffer with something posted is scheduled, and until then entries are only appended. -/
theorem WeaklyFair.drain_scheduled {n : Nat} (hw : (s.under g n).wb q ≠ []) :
    ∃ m more, n ≤ m ∧ g m = .drain q ∧ (s.under g m).wb q = (s.under g n).wb q ++ more := by
  have hgrow (m : Nat) (hm : n ≤ m) (hnot : ∀ k, n ≤ k → k < m → g k ≠ .drain q) :
      ∃ more, (s.under g m).wb q = (s.under g n).wb q ++ more := by
    induction m, hm using Nat.le_induction with
    | base => exact ⟨[], by simp⟩
    | succ m hm ih =>
      obtain ⟨more, hmore⟩ := ih fun k hk hkm => hnot k hk (by omega)
      obtain ⟨more', hmore', -⟩ := s.wb_under_succ (q := q) (hnot m hm (by omega))
      exact ⟨more ++ more', by rw [hmore', hmore, List.append_assoc]⟩
  have hex : ∃ m, n ≤ m ∧ g m = .drain q := by
    by_contra hnever
    push Not at hnever
    refine absurd (hf (.drain q) n fun m hm => ?_) (by simpa using hnever)
    obtain ⟨more, hmore⟩ := hgrow m hm fun k hk _ => hnever k hk
    simp [State.enabled, hmore, hw]
  classical
  obtain ⟨hm, hg⟩ := Nat.find_spec hex
  obtain ⟨more, hmore⟩ := hgrow _ hm fun k hk hlt hgk => Nat.find_min hex hlt ⟨hk, hgk⟩
  exact ⟨_, more, hm, hg, hmore⟩

variable (hi : RunInv s) (hl : s.cfg.legal = true)
include hi hl

/-- Every run ends: it has ever fewer stage steps left. -/
theorem WeaklyFair.run_ends (q : CorePort) : ∃ n, (s.under g n).engine q = .idle := by
  refine hf.eventually (.engine q) (fun n => (s.under g n).engine q = .idle)
    (fun n => ((s.under g n).engine q).stagesLeft s.cfg.nband) (fun n hn => by simpa [State.enabled] using hn)
    (fun n hn _ hg => ?_) (fun n hn hn' hg => ?_)
  all_goals
    obtain ⟨r, hr⟩ : ∃ r, (s.under g n).engine q = .run r := by
      cases he : (s.under g n).engine q with
      | idle => exact absurd he hn
      | run r => exact ⟨r, rfl⟩
    rw [hr]
  · rw [s.engine_under_succ hg hr]
  · exact (hi.stagesLeft_under_engine hl hg hr).resolve_left hn'

/-- Every posted entry is taken out by a drain step, when those before it have been. -/
theorem WeaklyFair.entry_drained (q : CorePort) {e : Posted} {earlier later : List Posted} {n : Nat}
    (hw : (s.under g n).wb q = earlier ++ e :: later) :
    ∃ m more, g m = .drain q ∧ (s.under g m).wb q = e :: (later ++ more) ∧
      (s.under g (m + 1)).wb q = later ++ more := by
  induction earlier generalizing n later with
  | nil =>
    obtain ⟨m, more, -, hg, hm⟩ := hf.drain_scheduled (q := q) (n := n) (by simp [hw])
    have hm : (s.under g m).wb q = e :: (later ++ more) := by simpa [hw] using hm
    exact ⟨m, more, hg, hm, hi.wb_under_drain hl hg hm⟩
  | cons x earlier ih =>
    obtain ⟨m, more, -, hg, hm⟩ := hf.drain_scheduled (q := q) (n := n) (by simp [hw])
    have hm : (s.under g m).wb q = x :: (earlier ++ e :: (later ++ more)) := by simpa [hw] using hm
    obtain ⟨m', more', hg', hw', hw''⟩ := ih (hi.wb_under_drain hl hg hm)
    exact ⟨m', more ++ more', hg', by rw [hw', List.append_assoc], by rw [hw'', List.append_assoc]⟩

/-- A buffer comes to be empty unless the command of its port completes: until then nothing is appended to it. -/
theorem WeaklyFair.hold_ends (q : CorePort) :
    ∃ n, (s.under g n).wb q = [] ∨ ((s.under g n).port q.port).outstanding = none := by
  refine hf.eventually (.drain q) (fun n => (s.under g n).wb q = [] ∨ ((s.under g n).port q.port).outstanding = none)
    (fun n => ((s.under g n).wb q).length) (fun n hn => by simp_all [State.enabled])
    (fun n _ hn' hg => ?_) (fun n hn _ hg => ?_)
  · obtain ⟨more, hmore, hdone⟩ := s.wb_under_succ (q := q) hg
    have hnone : more = [] := by
      by_contra hne
      exact hn' (.inr (hdone hne))
    simp [hmore, hnone]
  · cases hw : (s.under g n).wb q with
    | nil => exact absurd (.inl hw) hn
    | cons e rest => simp [hi.wb_under_drain hl hg hw]

end Fair

end Sys2Proof.Machine

namespace Sys2Proof.Proofs

open Sys2Proof Sys2Proof.Machine

/-- Settles O59: a run has ever fewer stage steps left, a drain takes the entries before a given one and then it, and
while a command is outstanding nothing is appended to the buffer of its port. -/
theorem fairnessEndsRunsAndDrains : Obligations.FairnessEndsRunsAndDrains := by
  unfold Obligations.FairnessEndsRunsAndDrains
  intro s g q hl hi hf
  exact ⟨hf.run_ends hi hl q, fun _ _ _ hw => hf.entry_drained hi hl q (n := 0) hw, fun _ => hf.hold_ends hi hl q⟩

end Sys2Proof.Proofs
end

section
/-! PROOFS. What a command, and a step, can do to the pool, to the form of the memories and to the sticky flags: said
once, for every command and every agent. -/

namespace Sys2Proof.Machine

open Sys2Proof Sys2Proof.Claims

variable {s u t : State} {i : Instr}

/-! ### Changes that move no buffer, spoil no memory and clear no flag -/

/-- `t` reads as `s` in all that the pool invariant speaks of. -/
structure SamePool (s t : State) : Prop where
  cfg : t.cfg = s.cfg
  own : ∀ b, t.ownOf b = s.ownOf b
  freeq : t.freeq = s.freeq
  outq : t.outq = s.outq
  bar : t.bar = s.bar
  jobBuf : t.jobBuf = s.jobBuf

/-- From `s` to `t` no sticky flag is cleared (R27, R28). -/
structure FlagsStay (s t : State) : Prop where
  qf : ∀ p, (s.port p).status.qf = true → (t.port p).status.qf = true
  res : s.esr.res = true → t.esr.res = true
  inv : s.esr.inv = true → t.esr.inv = true
  sat : s.esr.sat = true → t.esr.sat = true

/-- From `s` to `t` no buffer has moved, no memory has left its canonical form, and no sticky flag is cleared. -/
structure Quiet (s t : State) : Prop where
  pool : SamePool s t
  mem : s.memWf = true → t.memWf = true
  flags : FlagsStay s t

theorem FlagsStay.refl (s : State) : FlagsStay s s := ⟨fun _ => id, id, id, id⟩

theorem FlagsStay.trans (h : FlagsStay s u) (h' : FlagsStay u t) : FlagsStay s t :=
  ⟨fun p hp => h'.qf p (h.qf p hp), h'.res ∘ h.res, h'.inv ∘ h.inv, h'.sat ∘ h.sat⟩

theorem SamePool.trans (h : SamePool s u) (h' : SamePool u t) : SamePool s t :=
  ⟨h'.cfg.trans h.cfg, fun b => (h'.own b).trans (h.own b), h'.freeq.trans h.freeq, h'.outq.trans h.outq,
    h'.bar.trans h.bar, h'.jobBuf.trans h.jobBuf⟩

theorem Quiet.trans (h : Quiet s u) (h' : Quiet u t) : Quiet s t :=
  ⟨h.pool.trans h'.pool, h'.mem ∘ h.mem, h.flags.trans h'.flags⟩

/-- Where the fields of the pool are kept, the pool reads the same. -/
theorem SamePool.of_fields (hcfg : t.cfg = s.cfg := by rfl) (hown : t.own = s.own := by rfl)
    (hfreeq : t.freeq = s.freeq := by rfl) (houtq : t.outq = s.outq := by rfl) (hbar : t.bar = s.bar := by rfl)
    (hjob : t.jobBuf = s.jobBuf := by rfl) : SamePool s t :=
  ⟨hcfg, fun b => by simp only [State.ownOf, hown], hfreeq, houtq, hbar, hjob⟩

/-- Where ports and `ESR` are kept, no flag is cleared. -/
theorem FlagsStay.of_fields (hport : t.port = s.port := by rfl) (hesr : t.esr = s.esr := by rfl) :
    FlagsStay s t :=
  ⟨fun p => by rw [hport]; exact id, by rw [hesr]; exact id, by rw [hesr]; exact id, by rw [hesr]; exact id⟩

/-- A change that keeps the pool, the ports and `ESR`; and what it does to the memories keeps their form. -/
theorem Quiet.of_fields (hpool : SamePool s t := by exact SamePool.of_fields)
    (hflags : FlagsStay s t := by exact FlagsStay.of_fields)
    (hmem : s.memWf = true → t.memWf = true := by exact id) : Quiet s t :=
  ⟨hpool, hmem, hflags⟩

theorem Quiet.refl (s : State) : Quiet s s := .of_fields

section Operations
variable (h : Quiet s u)
include h

/-- A change of one port that does not clear its `QF`. -/
theorem Quiet.setPort (p : Port) {ps : PortState} (hqf : (u.port p).status.qf = true → ps.status.qf = true) :
    Quiet s (u.setPort p ps) := by
  refine h.trans (.of_fields (hflags := ⟨fun p' => ?_, id, id, id⟩))
  by_cases hp : p' = p
  · subst hp; simpa using hqf
  · simp [hp]

/-- A change of `ESR` that clears no bit of it. -/
theorem Quiet.raiseEsr (e : Esr) (hres : u.esr.res = true → e.res = true) (hinv : u.esr.inv = true → e.inv = true)
    (hsat : u.esr.sat = true → e.sat = true) : Quiet s { u with esr := e } :=
  h.trans (.of_fields (hflags := ⟨fun _ => id, hres, hinv, hsat⟩))

theorem Quiet.setReg (p : Port) (r : Reg) (v : Word) : Quiet s (u.setReg p r v) := h.setPort p id

theorem Quiet.respond (p : Port) (c : Cond) (v : Word) : Quiet s (u.respond p c v) := h.setPort p id

theorem Quiet.raiseQf (p : Port) : Quiet s (u.raiseQf p) := h.setPort p fun _ => rfl

theorem Quiet.present (p : Port) (w : Word) : Quiet s (u.present p w) :=
  (h.setPort p (ps := { u.port p with outstanding := some w }) id).trans .of_fields

theorem Quiet.setSmp (b n : Nat) (v : Half) : Quiet s (u.setSmp b n v) :=
  h.trans (.of_fields (hmem := u.memWf_setSmp b n v))

theorem Quiet.setCoef (k j : Nat) (v : Word) : Quiet s (u.setCoef k j v) :=
  h.trans (.of_fields (hmem := u.memWf_setCoef k j v))

theorem Quiet.setDelay (c : Fin 2) (k : Nat) (d : Delay) : Quiet s (u.setDelay c k d) :=
  h.trans (.of_fields (hmem := u.memWf_setDelay c k d))

theorem Quiet.setCnt (b n : Nat) : Quiet s (u.setCnt b n) := h.trans (.of_fields (hmem := u.memWf_setCnt b n))

theorem Quiet.zeroFilter : Quiet s u.zeroFilter := h.trans (.of_fields (hmem := u.memWf_zeroFilter))

theorem Quiet.setEngine (q : CorePort) (e : Engine) : Quiet s (u.setEngine q e) := h.trans .of_fields

theorem Quiet.setWb (q : CorePort) (w : List Posted) : Quiet s (u.setWb q w) := h.trans .of_fields

theorem Quiet.setLock (c : Fin 2) (l : Option CorePort) : Quiet s (u.setLock c l) := h.trans .of_fields

/-! The ways a command completes (R240 to R243). -/

theorem Quiet.okay (v : Word) : Quiet s (u.okay v) := h.respond _ _ v

theorem Quiet.answer (rd : Reg) (v : Word) : Quiet s (u.answer rd v) := (h.setReg _ rd v).okay v

theorem Quiet.reject (c : SubCause) : Quiet s (u.reject c) :=
  (h.raiseEsr { u.esr with inv := true } id (fun _ => rfl) id).respond _ _ _

theorem Quiet.exhaust (rd : Reg) : Quiet s (u.exhaust rd) :=
  ((h.raiseEsr { u.esr with res := true } (fun _ => rfl) id id).setReg _ rd _).respond _ _ _

theorem Quiet.saturate (rd : Reg) (v : Word) : Quiet s (u.saturate rd v) :=
  (((h.raiseEsr { u.esr with sat := true } id id fun _ => rfl).setReg _ rd v).raiseQf _).respond _ _ v

theorem Quiet.answerClamped (rd : Reg) (r : Int × Bool) : Quiet s (u.answerClamped rd r) := by
  rcases u.answerClamped_cases rd r with ⟨-, he⟩ | ⟨-, he⟩ <;> rw [he]
  · exact h.saturate rd _
  · exact h.answer rd _

/-! Posted writes (R70, R71). -/

theorem Quiet.commitPosted (e : Posted) : Quiet s (u.commitPosted e) := by
  cases e with
  | smp b n v => exact h.setSmp b n v
  | coef k j v => exact h.setCoef k j v

theorem Quiet.commitAll (es : List Posted) : Quiet s (es.foldl State.commitPosted u) := by
  induction es generalizing u with
  | nil => exact h
  | cons e es ih => exact ih (h.commitPosted e)

theorem Quiet.portPost (p : Port) (es : List Posted) : Quiet s (u.portPost p es) := by
  unfold State.portPost
  split
  · exact h
  · next q _ =>
    rcases u.post_cases q es with ⟨-, he⟩ | ⟨-, he⟩ <;> rw [he]
    · exact h.setWb q _
    · exact h.commitAll es

/-! The engine (R203, R206, R208). -/

theorem Quiet.startRun (p : Port) (b : Nat) (c : Fin 2) : Quiet s (u.startRun p b c) := by
  unfold State.startRun
  split
  · exact h
  · exact (h.setLock c _).setEngine _ _

theorem Quiet.finishRun (q : CorePort) (c : Fin 2) (sat : Bool) : Quiet s (u.finishRun q c sat) := by
  have hidle := (h.setLock c none).setEngine q .idle
  cases sat
  · exact hidle.respond _ _ _
  · exact (hidle.raiseQf _).respond _ _ _

theorem Quiet.noteClamp (clamped : Bool) : Quiet s (u.noteClamp clamped) := by
  cases clamped
  · exact h
  · exact (h.raiseEsr { u.esr with sat := true } id id fun _ => rfl).trans .of_fields

end Operations

theorem Quiet.stageStep (s : State) (q : CorePort) (r : Run) : Quiet s (s.stageStep q r) := by
  have hnote := ((Quiet.refl s).setDelay r.c r.k (s.stageOut r).delay).noteClamp (s.stageOut r).clamped
  have hsmp := hnote.setSmp r.b (2 * r.i + r.c.val) (q31ToQ15 (s.stageOut r).y)
  unfold State.stageStep
  split_ifs
  · exact hnote.setEngine _ _
  · exact hsmp.setEngine _ _
  · exact hsmp.finishRun _ _ _

/-! ### The effects of a command -/

/-- The commands that move a buffer or the barrier, and what each makes of the state before it completes, given what
its checks and its hold let through (R31, R161 to R179, R220 to R224). -/
inductive PoolMove (s : State) : Instr → State → Prop
  | take {rd : Reg} {b : Nat} {rest : List Nat} (hb : s.freeq = b :: rest) : PoolMove s (.take rd) (s.acquire b rest)
  | takeb {rd : Reg} {b : Nat} {rest : List Nat} (hb : s.freeq = b :: rest) :
    PoolMove s (.takeb rd) (s.acquire b rest)
  | give {ra : Reg} (hb : s.idx ra < s.cfg.nbuf) (ho : s.ownOf (s.idx ra) = .prod) :
    PoolMove s (.give ra) (({ s with outq := s.outq ++ [s.idx ra] } : State).setOwn (s.idx ra) .queued)
  | ctake {rd : Reg} {b : Nat} {rest : List Nat} (hb : s.outq = b :: rest) :
    PoolMove s (.ctake rd) (({ s with outq := rest } : State).setOwn b .cons)
  | cgive {ra : Reg} (hb : s.idx ra < s.cfg.nbuf) (ho : s.ownOf (s.idx ra) = .cons) :
    PoolMove s (.cgive ra) (({ s with freeq := s.freeq ++ [s.idx ra] } : State).setOwn (s.idx ra) .free)
  | flush : PoolMove s .flush s.flushed
  | fork {ra : Reg} (hb : s.idx ra < s.cfg.nbuf) (ho : s.ownOf (s.idx ra) = .prod) (hbar : s.bar = .idle) :
    PoolMove s (.fork ra) (({ s with jobBuf := BitVec.ofNat 8 (s.idx ra), bar := .goPending } : State).setOwn
      (s.idx ra) .split)
  | accept {rd : Reg} (hbar : s.bar = .goPending) : PoolMove s (.accept rd) { s with bar := .bActive }
  | done (hbar : s.bar = .bActive) : PoolMove s .done { s with bar := .donePending }
  | join (hbar : s.bar = .donePending) :
    PoolMove s .join (({ s with bar := .idle } : State).setOwn s.jobBuf.toNat .prod)

/-- What a command can make of the state: nothing but a quiet change; a move of the pool or the barrier, and a quiet
completion; or a CSR write, and a quiet completion. -/
inductive Change (s : State) : Instr → State → Prop
  | quiet {i : Instr} {t : State} (q : Quiet s t) : Change s i t
  | pool {i : Instr} {u t : State} (m : PoolMove s i u) (q : Quiet u t) : Change s i t
  | csr {rs : Reg} {n : Half} {r : Csr} {t : State} (hr : csrAt s.cfg n.toNat = some r)
      (q : Quiet (s.csrWrite s.issuer (s.opd rs) r) t) : Change s (.csrwr rs n) t

/-- An evaluation makes the changes of its effects, if it can also be rejected or held. -/
theorem Change.evaluate {checks : List (SubCause × Bool)} {hold : Bool} (h : s.evaluate checks hold u = .next t)
    (hu : firstFailed checks = none → hold = false → Change s i u) : Change s i t := by
  rcases s.evaluate_cases h with ⟨c, -, rfl⟩ | ⟨-, -, rfl⟩ | ⟨hc, hh, rfl⟩
  · exact .quiet (.reject (.refl s) c)
  · exact .quiet (.refl t)
  · exact hu hc hh

/-- A next state for sure. -/
theorem Change.of_next (h : Host.Outcome.next u = (Host.Outcome.next t : Result)) (hu : Change s i u) :
    Change s i t := by
  cases h
  exact hu

/-! ### Every command -/

theorem execCsrrd_change {rd : Reg} {csr : Half} (h : execCsrrd rd csr s = .next t) :
    Change s (.csrrd rd csr) t := by
  unfold execCsrrd at h
  split at h
  · exact .of_next h (.quiet (.reject (.refl s) _))
  · exact .of_next h (.quiet (.answer (.refl s) rd _))

theorem execCsrwr_change {rs : Reg} {csr : Half} (h : execCsrwr rs csr s = .next t) :
    Change s (.csrwr rs csr) t := by
  unfold execCsrwr at h
  split at h
  · exact .of_next h (.quiet (.reject (.refl s) _))
  · next r hr => exact .evaluate h fun _ _ => .csr hr (.okay (.refl _) _)

theorem execTake_change {rd : Reg} (h : execTake rd s = .next t) : Change s (.take rd) t := by
  refine .evaluate h fun _ _ => ?_
  split
  · exact .quiet (.exhaust .of_fields rd)
  · next hb => exact .pool (.take hb) (.answer (.refl _) rd _)

theorem execTakeb_change {rd : Reg} (h : execTakeb rd s = .next t) : Change s (.takeb rd) t := by
  refine .evaluate h fun _ _ => ?_
  split
  · exact .quiet (.refl s)
  · next hb => exact .pool (.takeb hb) (.answer (.refl _) rd _)

theorem execGive_change {ra : Reg} (h : execGive ra s = .next t) : Change s (.give ra) t := by
  refine .evaluate h fun hf _ => ?_
  simp only [firstFailed_eq_none, List.forall_mem_cons, decide_eq_true_eq] at hf
  obtain ⟨-, hb, ho, -⟩ := hf
  exact .pool (.give hb ho) (.okay (.refl _) _)

theorem execCtake_change {rd : Reg} (h : execCtake rd s = .next t) : Change s (.ctake rd) t := by
  refine .evaluate h fun _ _ => ?_
  split
  · exact .quiet (.exhaust .of_fields rd)
  · next hb => exact .pool (.ctake hb) (.answer (.refl _) rd _)

theorem execCgive_change {ra : Reg} (h : execCgive ra s = .next t) : Change s (.cgive ra) t := by
  refine .evaluate h fun hf _ => ?_
  simp only [firstFailed_eq_none, List.forall_mem_cons, decide_eq_true_eq] at hf
  obtain ⟨-, hb, ho, -⟩ := hf
  exact .pool (.cgive hb ho) (.okay (.refl _) _)

theorem execFlush_change (h : execFlush s = .next t) : Change s .flush t :=
  .evaluate h fun _ _ => .pool .flush (.okay (.refl _) _)

theorem execFork_change {ra : Reg} (h : execFork ra s = .next t) : Change s (.fork ra) t := by
  refine .evaluate h fun hf _ => ?_
  simp only [firstFailed_eq_none, List.forall_mem_cons, decide_eq_true_eq] at hf
  obtain ⟨-, hb, ho, hbar, -⟩ := hf
  exact .pool (.fork hb ho hbar) (.okay (.refl _) _)

/-- Past its check and its hold ACCEPT finds the barrier at GO_PENDING (R222). -/
theorem execAccept_change {rd : Reg} (h : execAccept rd s = .next t) : Change s (.accept rd) t := by
  refine .evaluate h fun hf hh => ?_
  simp only [firstFailed_eq_none, List.forall_mem_cons, decide_eq_true_eq, decide_eq_false_iff_not] at hf hh
  have hbar : s.bar = .goPending := by cases hb : s.bar <;> simp_all
  exact .pool (.accept hbar) (.answer (.refl _) rd _)

theorem execDone_change (h : execDone s = .next t) : Change s .done t := by
  refine .evaluate h fun hf _ => ?_
  simp only [firstFailed_eq_none, List.forall_mem_cons, decide_eq_true_eq] at hf
  obtain ⟨-, hbar, -⟩ := hf
  exact .pool (.done hbar) (.okay (.refl _) _)

/-- Past its check and its hold JOIN finds the barrier at DONE_PENDING (R224). -/
theorem execJoin_change (h : execJoin s = .next t) : Change s .join t := by
  refine .evaluate h fun hf hh => ?_
  simp only [firstFailed_eq_none, List.forall_mem_cons, decide_eq_true_eq, decide_eq_false_iff_not] at hf hh
  have hbar : s.bar = .donePending := by cases hb : s.bar <;> simp_all
  exact .pool (.join hbar) (.okay (.refl _) _)

theorem execFence_change (h : execFence s = .next t) : Change s .fence t :=
  .evaluate h fun _ _ => .quiet (.okay (.refl s) _)

theorem execBqrun_change {ra : Reg} {c : Fin 2} (h : execBqrun ra c s = .next t) : Change s (.bqrun ra c) t := by
  refine .evaluate h fun _ _ => ?_
  split
  · exact .quiet (.okay (.refl s) _)
  · exact .quiet (.startRun (.refl s) _ _ _)

/-- Every command makes one of the changes of `Change`. -/
theorem exec_change (h : exec i s = .next t) : Change s i t := by
  cases i with
  | nop | get => exact .of_next h (.quiet (.okay (.refl s) _))
  | ldi rd | ldih rd | mov rd | q15to31 rd | q31to15 rd | mulh rd | asr32 rd =>
    exact .of_next h (.quiet (.answer (.refl s) rd _))
  | sadd32 rd | ssub32 rd | sadd16 rd | ssub16 rd | sneg32 rd | sneg16 rd | smul31 rd | smul15 rd | mulhs rd
  | sshl32 rd | sat16 rd => exact .of_next h (.quiet (.answerClamped (.refl s) rd _))
  | csrrd => exact execCsrrd_change h
  | csrwr => exact execCsrwr_change h
  | take => exact execTake_change h
  | takeb => exact execTakeb_change h
  | give => exact execGive_change h
  | ctake => exact execCtake_change h
  | cgive => exact execCgive_change h
  | flush => exact execFlush_change h
  | fork => exact execFork_change h
  | accept => exact execAccept_change h
  | done => exact execDone_change h
  | join => exact execJoin_change h
  | bqrun => exact execBqrun_change h
  | getcnt rd | lds rd | ldf rd | coefrd rd | strd rd => exact .evaluate h fun _ _ => .quiet (.answer (.refl s) rd _)
  | setcnt => exact .evaluate h fun _ _ => .quiet (((Quiet.refl s).setCnt _ _).okay _)
  | sts | stf => exact .evaluate h fun _ _ => .quiet (((Quiet.refl s).portPost _ _).okay _)
  | coefwr =>
    exact .evaluate h fun _ _ => .quiet (.okay (.portPost .of_fields _ _) _)
  | commit | eqen =>
    exact .evaluate h fun _ _ => .quiet (.okay ((Quiet.refl s).zeroFilter.trans .of_fields) _)
  | fence => exact execFence_change h

/-! ### Every step -/

/-- Presenting a word leaves the registers. -/
@[simp] theorem State.reg_present (s : State) (p : Port) (w : Word) (p' : Port) (r : Reg) :
    (s.present p w).reg p' r = s.reg p' r := by
  by_cases hp : p' = p
  · subst hp; simp [State.reg]
  · simp [State.reg, hp]

/-- What a step of the unit can do: a quiet change; or, on some port, the change of the command it evaluates. -/
theorem step_change (h : step s = .next t) :
    Quiet s t ∨ ∃ p i u, s.cfg.legal = true ∧ stepRuns s p i ∧ Quiet s u ∧ u.issuer = p ∧
      (∀ r, u.reg p r = s.reg p r) ∧ Change u i t := by
  obtain ⟨hl, ⟨-, rfl⟩ | ⟨g, rest, hs, hg⟩⟩ := step_cases h
  · exact .inl (.refl t)
  · have hsched : Quiet s { s with sched := rest } := .of_fields
    cases g with
    | port p =>
      rcases State.portStep_cases hg with ⟨-, rfl⟩ | ⟨-, -, rfl⟩ | ⟨-, w, hw, hr⟩
      · exact .inl hsched
      · exact .inl hsched
      · have hpresent := hsched.present p w
        rcases runWord_cases hr with ⟨i, hd, he⟩ | ⟨-, rfl⟩
        · exact .inr ⟨p, i, _, hl, ⟨rest, w, hs, hw, hd⟩, hpresent, rfl, State.reg_present _ p w p, exec_change he⟩
        · exact .inl (hpresent.reject _)
    | drain q =>
      rcases State.drainStep_cases hg with ⟨-, rfl⟩ | ⟨e, rest', -, -, rfl⟩
      · exact .inl hsched
      · exact .inl ((hsched.setWb q rest').commitPosted e)
    | engine q =>
      rcases State.engineStep_cases hg with ⟨-, rfl⟩ | ⟨r, -, -, rfl⟩
      · exact .inl hsched
      · exact .inl (hsched.trans (.stageStep _ q r))

end Sys2Proof.Machine
end

section
/-! PROOFS. The pool: what each move does to ownership, and that it keeps the pool invariant. -/

namespace Sys2Proof.Machine

open Sys2Proof Sys2Proof.Claims

variable {s u t : State} {i : Instr}

/-! ### What the invariant says -/

theorem PoolInv.of_same (hi : PoolInv s) (h : SamePool s t) : PoolInv t := by
  obtain ⟨hfn, hon, hf, ho, hout, hsplit⟩ := hi
  constructor <;> simpa only [h.cfg, h.own, h.freeq, h.outq, h.bar, h.jobBuf]

theorem PoolInv.lt_of_owned (hi : PoolInv s) {b : Nat} (ho : s.ownOf b ≠ .free) : b < s.cfg.nbuf := by
  by_contra hb
  exact ho (hi.outside b (Nat.le_of_not_lt hb))

theorem PoolInv.head_free (hi : PoolInv s) {b : Nat} {rest : List Nat} (hq : s.freeq = b :: rest) :
    b < s.cfg.nbuf ∧ s.ownOf b = .free := (hi.freeExact b).mp (by simp [hq])

theorem PoolInv.head_queued (hi : PoolInv s) {b : Nat} {rest : List Nat} (hq : s.outq = b :: rest) :
    s.ownOf b = .queued := (hi.outExact b).mp (by simp [hq])

/-- The buffer of a busy barrier is SPLIT. -/
theorem PoolInv.job_split (hi : PoolInv s) (hbar : s.bar ≠ .idle) : s.ownOf s.jobBuf.toNat = .split :=
  (hi.splitExact _).mpr ⟨hbar, rfl⟩

/-! ### The moves keep the invariant -/

/-- One buffer of the pool changes ownership to `o`: what is left to show is that the queues hold it exactly when `o`
says so and lose or gain no other, and that the barrier agrees with what is SPLIT. -/
theorem PoolInv.move (hi : PoolInv s) {b : Nat} {o : Own} (hb : b < s.cfg.nbuf) (hcfg : u.cfg = s.cfg)
    (hown : ∀ b', u.ownOf b' = if b' = b then o else s.ownOf b')
    (hfn : u.freeq.Nodup) (hf : ∀ b', b' ∈ u.freeq ↔ if b' = b then o = .free else b' ∈ s.freeq)
    (hqn : u.outq.Nodup) (hq : ∀ b', b' ∈ u.outq ↔ if b' = b then o = .queued else b' ∈ s.outq)
    (hsplit : ∀ b', (if b' = b then o = .split else s.ownOf b' = .split) ↔ u.bar ≠ .idle ∧ u.jobBuf.toNat = b') :
    PoolInv u := by
  refine ⟨hfn, hqn, fun b' => ?_, fun b' => ?_, fun b' hb' => ?_, fun b' => ?_⟩
  · rw [hf, hown, hcfg]; by_cases h : b' = b <;> simp [h, hb, hi.freeExact]
  · rw [hq, hown]; by_cases h : b' = b <;> simp [h, hi.outExact]
  · rw [hcfg] at hb'
    have h : b' ≠ b := by omega
    simpa [hown, h] using hi.outside b' hb'
  · rw [← hsplit, hown]; by_cases h : b' = b <;> simp [h]

/-- A queue without its head. -/
theorem nodup_and_mem_tail {l rest : List Nat} {b : Nat} (hl : l.Nodup) (hq : l = b :: rest) :
    rest.Nodup ∧ ∀ b', b' ∈ rest ↔ b' ≠ b ∧ b' ∈ l := by
  subst hq
  obtain ⟨hb, hr⟩ := List.nodup_cons.mp hl
  refine ⟨hr, fun b' => ⟨fun h => ⟨fun he => hb (he ▸ h), by simp [h]⟩, fun ⟨hne, h⟩ => ?_⟩⟩
  exact (List.mem_cons.mp h).resolve_left hne

/-- While the barrier is kept, a buffer that was not SPLIT and does not become SPLIT leaves it right. -/
theorem PoolInv.split_of_ne (hi : PoolInv s) {b : Nat} {o : Own} (hold : s.ownOf b ≠ .split) (ho : o ≠ .split)
    (b' : Nat) :
    (if b' = b then o = .split else s.ownOf b' = .split) ↔ s.bar ≠ .idle ∧ s.jobBuf.toNat = b' := by
  rw [← hi.splitExact]
  by_cases h : b' = b
  · simp [h, ho, hold]
  · simp [h]

/-- A queue with one buffer more at its end. -/
theorem nodup_and_mem_concat {l : List Nat} {b : Nat} (hl : l.Nodup) (hb : b ∉ l) :
    (l ++ [b]).Nodup ∧ ∀ b', b' ∈ l ++ [b] ↔ b' = b ∨ b' ∈ l := by
  refine ⟨?_, fun b' => by simp [or_comm]⟩
  rw [← List.concat_eq_append]
  exact hl.concat hb

/-- A queue that a buffer neither leaves nor joins. -/
theorem PoolInv.freeq_of_ne (hi : PoolInv s) {b : Nat} {o : Own} (hold : s.ownOf b ≠ .free) (ho : o ≠ .free)
    (b' : Nat) : b' ∈ s.freeq ↔ if b' = b then o = .free else b' ∈ s.freeq := by
  by_cases h : b' = b <;> simp [h, hi.freeExact, hold, ho]

theorem PoolInv.outq_of_ne (hi : PoolInv s) {b : Nat} {o : Own} (hold : s.ownOf b ≠ .queued) (ho : o ≠ .queued)
    (b' : Nat) : b' ∈ s.outq ↔ if b' = b then o = .queued else b' ∈ s.outq := by
  by_cases h : b' = b <;> simp [h, hi.outExact, hold, ho]

@[simp] theorem State.ownOf_acquire (s : State) (b : Nat) (rest : List Nat) (b' : Nat) :
    (s.acquire b rest).ownOf b' = if b' = b then .prod else s.ownOf b' :=
  State.ownOf_setOwn { s with freeq := rest } b .prod b'

theorem PoolInv.acquire (hi : PoolInv s) {b : Nat} {rest : List Nat} (hq : s.freeq = b :: rest) :
    PoolInv (s.acquire b rest) := by
  obtain ⟨hb, ho⟩ := hi.head_free hq
  obtain ⟨hn, hm⟩ := nodup_and_mem_tail hi.freeNodup hq
  refine hi.move (b := b) (o := .prod) hb rfl (s.ownOf_acquire b rest) hn (fun b' => (hm b').trans ?_) hi.outNodup
    (hi.outq_of_ne (by simp [ho]) (by simp)) (hi.split_of_ne (by simp [ho]) (by simp))
  by_cases h : b' = b <;> simp [h]

theorem PoolInv.give (hi : PoolInv s) {b : Nat} (ho : s.ownOf b = .prod) :
    PoolInv (({ s with outq := s.outq ++ [b] } : State).setOwn b .queued) := by
  obtain ⟨hn, hm⟩ := nodup_and_mem_concat (b := b) hi.outNodup (by simp [hi.outExact, ho])
  refine hi.move (b := b) (o := .queued) (hi.lt_of_owned (by simp [ho])) rfl (State.ownOf_setOwn _ _ _) hi.freeNodup
    (hi.freeq_of_ne (by simp [ho]) (by simp)) hn (fun b' => (hm b').trans ?_) (hi.split_of_ne (by simp [ho]) (by simp))
  by_cases h : b' = b <;> simp [h]

theorem PoolInv.ctake (hi : PoolInv s) {b : Nat} {rest : List Nat} (hq : s.outq = b :: rest) :
    PoolInv (({ s with outq := rest } : State).setOwn b .cons) := by
  have ho := hi.head_queued hq
  obtain ⟨hn, hm⟩ := nodup_and_mem_tail hi.outNodup hq
  refine hi.move (b := b) (o := .cons) (hi.lt_of_owned (by simp [ho])) rfl (State.ownOf_setOwn _ _ _) hi.freeNodup
    (hi.freeq_of_ne (by simp [ho]) (by simp)) hn (fun b' => (hm b').trans ?_) (hi.split_of_ne (by simp [ho]) (by simp))
  by_cases h : b' = b <;> simp [h]

theorem PoolInv.cgive (hi : PoolInv s) {b : Nat} (ho : s.ownOf b = .cons) :
    PoolInv (({ s with freeq := s.freeq ++ [b] } : State).setOwn b .free) := by
  obtain ⟨hn, hm⟩ := nodup_and_mem_concat (b := b) hi.freeNodup (by simp [hi.freeExact, ho])
  refine hi.move (b := b) (o := .free) (hi.lt_of_owned (by simp [ho])) rfl (State.ownOf_setOwn _ _ _) hn
    (fun b' => (hm b').trans ?_) hi.outNodup (hi.outq_of_ne (by simp [ho]) (by simp))
    (hi.split_of_ne (by simp [ho]) (by simp))
  by_cases h : b' = b <;> simp [h]

/-- FORK finds the barrier idle and so nothing SPLIT; its buffer fits the eight bits of `job_buf` (R37, R221). -/
theorem PoolInv.fork (hi : PoolInv s) {b : Nat} (hb : b < 256) (ho : s.ownOf b = .prod) (hbar : s.bar = .idle) :
    PoolInv (({ s with jobBuf := BitVec.ofNat 8 b, bar := .goPending } : State).setOwn b .split) := by
  refine hi.move (b := b) (o := .split) (hi.lt_of_owned (by simp [ho])) rfl (State.ownOf_setOwn _ _ _) hi.freeNodup
    (hi.freeq_of_ne (by simp [ho]) (by simp)) hi.outNodup (hi.outq_of_ne (by simp [ho]) (by simp)) (fun b' => ?_)
  have hjob : (BitVec.ofNat 8 b).toNat = b := by simpa using hb
  by_cases h : b' = b
  · simp [h, hjob]
  · simp [h, hjob, hi.splitExact, hbar, Ne.symm h]

/-- JOIN frees the barrier of the one SPLIT buffer (R224). -/
theorem PoolInv.join (hi : PoolInv s) (hbar : s.bar ≠ .idle) :
    PoolInv (({ s with bar := .idle } : State).setOwn s.jobBuf.toNat .prod) := by
  have ho := hi.job_split hbar
  refine hi.move (b := s.jobBuf.toNat) (o := .prod) (hi.lt_of_owned (by simp [ho])) rfl (State.ownOf_setOwn _ _ _)
    hi.freeNodup (hi.freeq_of_ne (by simp [ho]) (by simp)) hi.outNodup (hi.outq_of_ne (by simp [ho]) (by simp))
    (fun b' => ?_)
  by_cases h : b' = s.jobBuf.toNat
  · simp [h]
  · simp [h, hi.splitExact, Ne.symm h]

/-- The barrier moves while it stays busy (R222, R223). -/
theorem PoolInv.setBar (hi : PoolInv s) {x : BarState} (hbar : s.bar ≠ .idle) (hx : x ≠ .idle) :
    PoolInv { s with bar := x } where
  freeNodup := hi.freeNodup
  outNodup := hi.outNodup
  freeExact := hi.freeExact
  outExact := hi.outExact
  outside := hi.outside
  splitExact b := (hi.splitExact b).trans (by simp [hbar, hx])

/-- A pool all of whose buffers are free, the barrier idle: after reset and after FLUSH (R54, R179). -/
theorem PoolInv.of_all_free (hown : ∀ b, s.ownOf b = .free) (hfree : s.freeq = List.range s.cfg.nbuf)
    (hout : s.outq = []) (hbar : s.bar = .idle) : PoolInv s := by
  constructor <;> simp [hown, hfree, hout, hbar, List.nodup_range]

theorem PoolInv.poolMove (hi : PoolInv s) (hl : s.cfg.legal = true) (h : PoolMove s i u) : PoolInv u := by
  cases h with
  | take hb | takeb hb => exact hi.acquire hb
  | give _ ho => exact hi.give ho
  | ctake hb => exact hi.ctake hb
  | cgive _ ho => exact hi.cgive ho
  | flush => exact .of_all_free (fun _ => rfl) rfl rfl rfl
  | fork hb ho hbar =>
    simp only [Params.legal, decide_eq_true_eq] at hl
    exact hi.fork (by omega) ho hbar
  | accept hbar | done hbar => exact hi.setBar (by simp [hbar]) (by simp)
  | join hbar => exact hi.join (by simp [hbar])

/-! ### Ownership moves -/

/-- A buffer whose ownership a move changes, changes it as R31 says of the move's command. -/
theorem PoolMove.ownMove (hi : PoolInv s) (h : PoolMove s i u) {b : Nat} (hb : u.ownOf b ≠ s.ownOf b) :
    ownMove i (s.ownOf b) (u.ownOf b) := by
  have written {v : State} {b' : Nat} {o : Own} (hv : v.ownOf b = if b = b' then o else s.ownOf b)
      (hne : v.ownOf b ≠ s.ownOf b) : b = b' ∧ v.ownOf b = o := by
    split at hv
    · next hbb => exact ⟨hbb, hv⟩
    · exact absurd hv hne
  cases h with
  | take hq | takeb hq =>
    obtain ⟨rfl, ho⟩ := written (s.ownOf_acquire _ _ b) hb
    exact ⟨(hi.head_free hq).2, ho⟩
  | give _ hold | cgive _ hold | fork _ hold =>
    obtain ⟨rfl, ho⟩ := written (State.ownOf_setOwn _ _ _ b) hb
    exact ⟨hold, ho⟩
  | ctake hq =>
    obtain ⟨rfl, ho⟩ := written (State.ownOf_setOwn _ _ _ b) hb
    exact ⟨hi.head_queued hq, ho⟩
  | join hbar =>
    obtain ⟨rfl, ho⟩ := written (State.ownOf_setOwn _ _ _ b) hb
    exact ⟨hi.job_split (by simp [hbar]), ho⟩
  | flush => rfl
  | accept | done => exact absurd rfl hb

end Sys2Proof.Machine
end

section
/-! PROOFS. How the pool is shared out, what keeps the memories canonical, the CSR map and its writes, and the
statements about every step that rest on these. -/

namespace Sys2Proof.Machine

open Sys2Proof Sys2Proof.Claims

variable {s u t : State} {i : Instr}

/-- Every buffer of the pool has one of the five ownership values (R33). -/
theorem owned_sum (s : State) :
    owned s .free .free + owned s .prod .prod + owned s .split .split + owned s .queued .queued +
      owned s .cons .cons = s.cfg.nbuf := by
  have hsum : (Finset.range s.cfg.nbuf).card =
      ∑ o ∈ ({.free, .prod, .split, .queued, .cons} : Finset Own),
        ((Finset.range s.cfg.nbuf).filter fun b => s.ownOf b = o).card :=
    Finset.card_eq_sum_card_fiberwise fun b _ => by cases s.ownOf b <;> simp
  simpa [owned, add_assoc] using hsum.symm

/-! ### Memories -/

/-- Tables with nothing listed are canonical, whatever the parameters. -/
theorem State.memWf_flushed (h : s.memWf = true) : s.flushed.memWf = true := by
  simp only [State.memWf, Bool.and_eq_true] at h
  obtain ⟨⟨⟨⟨⟨hsmp, -⟩, -⟩, hcoef⟩, -⟩, -⟩ := h
  simp only [State.memWf, Bool.and_eq_true]
  exact ⟨⟨⟨⟨⟨hsmp, rfl⟩, rfl⟩, hcoef⟩, rfl⟩, rfl⟩

theorem PoolMove.memWf (h : PoolMove s i u) (hs : s.memWf = true) : u.memWf = true := by
  cases h with
  | take | takeb => exact State.memWf_setCnt _ _ (State.memWf_setOwn _ _ hs)
  | give | ctake | cgive | fork | join => exact State.memWf_setOwn _ _ hs
  | flush => exact State.memWf_flushed hs
  | accept | done => exact hs

/-! ### CSR writes -/

theorem State.csrWrite_status (s : State) (p : Port) (v : Word) :
    s.csrWrite p v .status = if v.getLsbD 8 then s.clearQf p else s := rfl

/-- A CSR write moves no buffer (R117). -/
theorem SamePool.csrWrite (s : State) (p : Port) (v : Word) (r : Csr) : SamePool s (s.csrWrite p v r) := by
  cases r with
  | status =>
    rw [State.csrWrite_status]
    split <;> exact .of_fields
  | esr | overrun | underrun | satcnt | ie | cfg0 | cfg1 | eqctl | poolstat | barstat | bufstat => exact .of_fields

theorem State.memWf_csrWrite (p : Port) (v : Word) (r : Csr) (h : s.memWf = true) :
    (s.csrWrite p v r).memWf = true := by
  cases r with
  | status =>
    rw [State.csrWrite_status]
    split <;> exact h
  | esr | overrun | underrun | satcnt | ie | cfg0 | cfg1 | eqctl | poolstat | barstat | bufstat => exact h

/-- The number of an implemented register (R40). -/
def Csr.number : Csr → Nat
  | .cfg0 => 0x0000
  | .cfg1 => 0x0001
  | .status => 0x0002
  | .esr => 0x0003
  | .eqctl => 0x0004
  | .poolstat => 0x0005
  | .overrun => 0x0006
  | .underrun => 0x0007
  | .satcnt => 0x0008
  | .barstat => 0x0009
  | .ie => 0x000A
  | .bufstat b => 0x0100 + b

/-- A register stands at its number and nowhere else. -/
theorem csrAt_number {c : Params} {n : Nat} {r : Csr} (h : csrAt c n = some r) : n = r.number := by
  unfold csrAt at h
  split at h
  case h_12 =>
    split at h
    · cases h; simp only [Csr.number]; omega
    · cases h
  all_goals cases h; rfl

/-- A number outside the map has no register, and only such a number (R40, R49). -/
theorem csrAt_eq_none {c : Params} {n : Nat} : csrAt c n = none ↔ ¬ csrImplemented c n := by
  unfold csrAt csrImplemented
  split
  case h_12 =>
    simp only [imp_false] at *
    split
    · next h => simp [h]
    · next h => simpa [h] using by omega
  all_goals simp

/-- The registers CSRWR may write are those of the writable numbers (R49, R117). -/
theorem Csr.writable_iff (r : Csr) : r.writable = true ↔ csrWritable r.number := by
  cases r with
  | bufstat b => simp [Csr.writable, csrWritable, Csr.number]; omega
  | _ => simp [Csr.writable, csrWritable, Csr.number]

/-- Only a write of bit 8 to STATUS clears a `QF`, that of the writing port (R27, R41). -/
theorem State.qf_cleared_csrWrite {p p' : Port} {v : Word} {r : Csr} (hs : (s.port p').status.qf = true)
    (ht : ((s.csrWrite p v r).port p').status.qf = false) : r = .status ∧ p' = p ∧ v.getLsbD 8 = true := by
  cases r with
  | status =>
    rw [State.csrWrite_status] at ht
    split at ht
    · next hv =>
      by_cases hp : p' = p
      · exact ⟨rfl, hp, hv⟩
      · simp [State.port_clearQf, hp, hs] at ht
    · simp [hs] at ht
  | esr | overrun | underrun | satcnt | ie | cfg0 | cfg1 | eqctl | poolstat | barstat | bufstat =>
    exact absurd (hs.symm.trans ht) (by decide)

/-- Only a write to ESR changes `ESR` (R28, R42). -/
theorem State.esr_csrWrite (s : State) (p : Port) (v : Word) (r : Csr) :
    (s.csrWrite p v r).esr = if r = .esr then s.esr.clear v else s.esr := by
  cases r with
  | status =>
    rw [State.csrWrite_status]
    split <;> rfl
  | esr | overrun | underrun | satcnt | ie | cfg0 | cfg1 | eqctl | poolstat | barstat | bufstat => rfl

/-! ### Sticky flags -/

theorem PoolMove.flags (h : PoolMove s i u) : FlagsStay s u := by cases h <;> exact .of_fields

/-- A step that clears a flag makes a CSR write: of `v`, by its own port, to the register of number `n`. -/
theorem step_flags (h : step s = .next t) :
    FlagsStay s t ∨ ∃ p rs n r u, stepRuns s p (.csrwr rs n) ∧ n.toNat = r.number ∧ FlagsStay s u ∧
      FlagsStay (u.csrWrite p (s.reg p rs) r) t := by
  rcases step_change h with hq | ⟨p, i, u, -, hruns, hsu, rfl, hreg, hc⟩
  · exact .inl hq.flags
  · cases hc with
    | quiet q => exact .inl (hsu.flags.trans q.flags)
    | pool m q => exact .inl (hsu.flags.trans (m.flags.trans q.flags))
    | @csr rs n r _ hr q =>
      refine .inr ⟨u.issuer, rs, n, r, u, hruns, csrAt_number hr, hsu.flags, ?_⟩
      rw [← hreg]
      exact q.flags

/-- A bit of `ESR` that a step clears, it clears by a CSR write of that bit to ESR. -/
theorem step_clears_esr {f : Esr → Bool} {k : Nat} (hf : ∀ s t, FlagsStay s t → f s.esr = true → f t.esr = true)
    (hk : ∀ e v, f (e.clear v) = (f e && !v.getLsbD k)) (h : step s = .next t) (hs : f s.esr = true)
    (ht : f t.esr = false) : ∃ p rs, stepRuns s p (.csrwr rs 0x0003#16) ∧ (s.reg p rs).getLsbD k = true := by
  rcases step_flags h with hst | ⟨p, rs, n, r, u, hruns, hn, hsu, hut⟩
  · simp [hf s t hst hs] at ht
  · have hu : f u.esr = true := hf s u hsu hs
    have hcleared : f (u.csrWrite p (s.reg p rs) r).esr = false := by
      by_contra hne
      simp [hf _ t hut (by simpa using hne)] at ht
    rw [State.esr_csrWrite] at hcleared
    split at hcleared
    · next hr =>
      obtain rfl : n = 0x0003#16 := BitVec.eq_of_toNat_eq (by rw [hn, hr]; rfl)
      exact ⟨p, rs, hruns, by simpa [hk, hu] using hcleared⟩
    · simp [hu] at hcleared

end Sys2Proof.Machine

namespace Sys2Proof.Proofs

open Sys2Proof Sys2Proof.Machine Sys2Proof.Claims

/-- Settles O48: each move of a buffer keeps the invariant, and no other change touches what it speaks of. -/
theorem everyStepKeepsThePoolInvariant : Obligations.EveryStepKeepsThePoolInvariant := by
  unfold Obligations.EveryStepKeepsThePoolInvariant
  intro s hi
  refine ⟨owned_sum s, fun t h => ?_⟩
  rcases step_change h with hq | ⟨p, i, u, hl, -, hsu, -, -, hc⟩
  · exact hi.of_same hq.pool
  · have hiu := hi.of_same hsu.pool
    cases hc with
    | quiet q => exact hiu.of_same q.pool
    | pool m q => exact (hiu.poolMove (hsu.pool.cfg ▸ hl) m).of_same q.pool
    | csr _ q => exact hiu.of_same ((SamePool.csrWrite _ _ _ _).trans q.pool)

/-- Settles O49: the invariant's step lemma. -/
theorem everyStepKeepsTheEngineInvariant : Obligations.EveryStepKeepsTheEngineInvariant := by
  unfold Obligations.EveryStepKeepsTheEngineInvariant
  exact fun _ _ hi h => hi.step h

/-- Settles O50: every change a step can make is a sequence of writes that keep the canonical form. -/
theorem everyStepKeepsTheMemoriesCanonical : Obligations.EveryStepKeepsTheMemoriesCanonical := by
  unfold Obligations.EveryStepKeepsTheMemoriesCanonical
  intro s t hs h
  rcases step_change h with hq | ⟨p, i, u, -, -, hsu, -, -, hc⟩
  · exact hq.mem hs
  · have hu := hsu.mem hs
    cases hc with
    | quiet q => exact q.mem hu
    | pool m q => exact q.mem (m.memWf hu)
    | csr _ q => exact q.mem (State.memWf_csrWrite _ _ _ hu)

/-- Settles O53: only the move of a command changes ownership, and from the value its check or the invariant gives. -/
theorem ownershipMovesOnlyByItsCommands : Obligations.OwnershipMovesOnlyByItsCommands := by
  unfold Obligations.OwnershipMovesOnlyByItsCommands
  intro s t b hi h hb
  rcases step_change h with hq | ⟨p, i, u, -, hruns, hsu, -, -, hc⟩
  · exact absurd (hq.pool.own b) hb
  · rw [← hsu.pool.own b] at hb ⊢
    cases hc with
    | quiet q => exact absurd (q.pool.own b) hb
    | pool m q =>
      rw [q.pool.own b] at hb ⊢
      exact ⟨p, i, hruns, m.ownMove (hi.of_same hsu.pool) hb⟩
    | csr _ q => exact absurd (((SamePool.csrWrite _ _ _ _).trans q.pool).own b) hb

/-- Settles O56: of the changes a step can make, only the CSR write of STATUS clears a `QF`. -/
theorem qfIsSticky : Obligations.QfIsSticky := by
  unfold Obligations.QfIsSticky
  intro s t p h hs ht
  rcases step_flags h with hst | ⟨p', rs, n, r, u, hruns, hn, hsu, hut⟩
  · simp [hst.qf p hs] at ht
  · have hcleared : ((u.csrWrite p' (s.reg p' rs) r).port p).status.qf = false := by
      by_contra hne
      simp [hut.qf p (by simpa using hne)] at ht
    obtain ⟨rfl, rfl, hv⟩ := State.qf_cleared_csrWrite (hsu.qf p hs) hcleared
    obtain rfl : n = 0x0002#16 := BitVec.eq_of_toNat_eq hn
    exact ⟨rs, hruns, hv⟩

/-- Settles O57: of the changes a step can make, only the CSR write of ESR clears a bit of `ESR`. -/
theorem esrIsSticky : Obligations.EsrIsSticky := by
  unfold Obligations.EsrIsSticky
  intro s t h
  exact ⟨step_clears_esr (fun _ _ hf => hf.res) (fun _ _ => rfl) h,
    step_clears_esr (fun _ _ hf => hf.inv) (fun _ _ => rfl) h,
    step_clears_esr (fun _ _ hf => hf.sat) (fun _ _ => rfl) h⟩

end Sys2Proof.Proofs
end

section
/-! PROOFS. Ports belong to their agents: what a step leaves of the ports of other agents (R21, R24, R26). -/

namespace Sys2Proof.Machine

open Sys2Proof

variable {s t : State} {g : Agent} {p : Port}

/-- A command leaves every port but its own. -/
theorem WordEffect.otherPorts {w : Word} (h : WordEffect w s t) : OtherPortsKept s.issuer s t := by
  cases h with
  | held => exact fun _ _ => rfl
  | completed posts => exact posts.ports
  | started => intro p' _; simp [State.startRun]

/-- A port's step leaves every other port. -/
theorem State.portStep_otherPorts (h : s.portStep p = .next t) : OtherPortsKept p s t := by
  rcases State.portStep_effect h with rfl | ⟨-, w, -, he⟩
  · exact fun _ _ => rfl
  · intro p' hp'
    rw [he.otherPorts p' hp', State.port_present, if_neg hp']

/-- A drain step leaves the ports. -/
theorem State.drainStep_port {q : CorePort} (h : s.drainStep q = .next t) (p : Port) : t.port p = s.port p := by
  rcases State.drainStep_cases h with ⟨-, rfl⟩ | ⟨e, rest, -, -, rfl⟩
  · rfl
  · exact (SameRuns.commitPosted _ e).ports p

@[simp] theorem State.reg_finishRun (s : State) (q : CorePort) (c : Fin 2) (sat : Bool) (p : Port) (r : Reg) :
    (s.finishRun q c sat).reg p r = s.reg p r := by
  cases sat <;> simp [State.finishRun]

theorem RegsKept.of_port (h : t.port p = s.port p) : RegsKept p s t := fun _ => by simp only [State.reg, h]

/-- An engine's step leaves every port, unless it ends its run; then it leaves the other ports, and the registers of
its own (R206, R208). -/
theorem State.engineStep_ports {q : CorePort} (h : s.engineStep q = .next t) :
    (∀ p, t.port p = s.port p) ∨
      (s.engine q ≠ .idle ∧ t.engine q = .idle ∧ OtherPortsKept q.port s t ∧ ∀ p, RegsKept p s t) := by
  rcases State.engineStep_cases h with ⟨-, rfl⟩ | ⟨r, hr, -, rfl⟩
  · exact .inl fun _ => rfl
  · obtain ⟨u, hu, ⟨r', -, he⟩ | ⟨sat, he⟩⟩ := s.stageStep_cases q r <;> rw [he]
    · exact .inl hu.ports
    · refine .inr ⟨by simp [hr], by simp, fun p hp => ?_, fun p x => ?_⟩
      · rw [State.port_finishRun _ _ _ _ hp, hu.ports]
      · rw [State.reg_finishRun]
        exact RegsKept.of_port (hu.ports p) x

/-- A step of another agent leaves a port whole, or it ends the run of the port's engine and leaves the registers. -/
theorem State.agentStep_port (h : s.agentStep g = .next t) (hg : g ≠ .port p) :
    t.port p = s.port p ∨
      (∃ q : CorePort, q.port = p ∧ g = .engine q ∧ s.engine q ≠ .idle ∧ t.engine q = .idle ∧ RegsKept p s t) := by
  cases g with
  | port p' => exact .inl (State.portStep_otherPorts h p fun hp => hg (by rw [hp]))
  | drain q => exact .inl (State.drainStep_port h p)
  | engine q =>
    rcases State.engineStep_ports h with hall | ⟨hrun, hidle, hother, hregs⟩
    · exact .inl (hall p)
    · by_cases hp : p = q.port
      · exact .inr ⟨q, hp.symm, rfl, hrun, hidle, hregs p⟩
      · exact .inl (hother p hp)

end Sys2Proof.Machine

namespace Sys2Proof.Proofs

open Sys2Proof Sys2Proof.Machine

/-- Settles O55: agent by agent; the end of a run is the only step of another agent that changes a port. -/
theorem portsArePrivate : Obligations.PortsArePrivate := by
  unfold Obligations.PortsArePrivate
  intro s t g rest p hs h hg
  obtain ⟨-, ⟨hnil, -⟩ | ⟨g', rest', hs', ha⟩⟩ := step_cases h
  · simp [hnil] at hs
  · obtain ⟨rfl, rfl⟩ := List.cons.inj (hs.symm.trans hs')
    rcases State.agentStep_port ha hg with hport | ⟨q, hq, rfl, hrun, hidle, hregs⟩
    · exact ⟨.of_port hport, fun _ => hport⟩
    · exact ⟨hregs, fun hkeep => (hkeep q hq rfl).elim (absurd · hrun) (absurd hidle ·)⟩

end Sys2Proof.Proofs
end

section
/-! PROOFS. The state after reset (R54), and the invariants it meets. -/

namespace Sys2Proof.Machine

open Sys2Proof

section Reset
variable (cfg : Params) (xa xb xc : Vector Word 16) (smp : Table (Table Half))

theorem PoolInv.resetOf : PoolInv (State.resetOf cfg xa xb xc smp) := .of_all_free (fun _ => rfl) rfl rfl rfl

theorem State.core_resetOf (q : CorePort) : (State.resetOf cfg xa xb xc smp).core q = { wb := [], eng := .idle } := by
  cases q <;> rfl

@[simp] theorem State.wb_resetOf (q : CorePort) : (State.resetOf cfg xa xb xc smp).wb q = [] := by
  simp [State.wb, State.core_resetOf]

@[simp] theorem State.engine_resetOf (q : CorePort) : (State.resetOf cfg xa xb xc smp).engine q = .idle := by
  simp [State.engine, State.core_resetOf]

@[simp] theorem State.lockOf_resetOf (c : Fin 2) : (State.resetOf cfg xa xb xc smp).lockOf c = none := by
  fin_cases c <;> rfl

@[simp] theorem State.delayAt_resetOf (c : Fin 2) (k : Nat) :
    (State.resetOf cfg xa xb xc smp).delayAt c k = Delay.zero := by
  fin_cases c <;> rfl

/-- Nothing is posted, locked or running, and every count is 0. -/
theorem RunInv.resetOf : RunInv (State.resetOf cfg xa xb xc smp) where
  counts _ := Nat.zero_le _
  runs q r hr := by simp at hr
  locks c q hl := by simp at hl
  entries q e he := by simp at he
  depth q d _ := by simp

/-- Every memory but the samples lists nothing. -/
theorem State.memWf_resetOf (h : samplesWf smp = true) : (State.resetOf cfg xa xb xc smp).memWf = true := by
  simp [State.memWf, State.resetOf, Table.wf, h]

end Reset

end Sys2Proof.Machine

namespace Sys2Proof.Proofs

open Sys2Proof Sys2Proof.Machine

/-- Settles O51: in the reset state every buffer is free, and every table but the samples lists nothing. -/
theorem resetMeetsTheInvariants : Obligations.ResetMeetsTheInvariants := by
  unfold Obligations.ResetMeetsTheInvariants
  intro cfg xa xb xc smp
  exact ⟨.resetOf cfg xa xb xc smp, .resetOf cfg xa xb xc smp, State.memWf_resetOf cfg xa xb xc smp⟩

/-- Settles O60: the fields of `State.resetOf`; a table that lists nothing reads as R54 says. -/
theorem resetPutsEveryPieceAtItsValue : Obligations.ResetPutsEveryPieceAtItsValue := by
  unfold Obligations.ResetPutsEveryPieceAtItsValue
  intro cfg xa xb xc smp s
  refine ⟨fun p => ?_, rfl, fun _ => ⟨rfl, rfl⟩, rfl, rfl, fun _ => ⟨rfl, rfl, rfl, rfl, rfl⟩, fun c k j => ?_, rfl,
    rfl, rfl, rfl, rfl, rfl, rfl, rfl, rfl, fun q => ?_, fun c => ?_⟩
  · cases p <;> exact ⟨rfl, rfl, rfl⟩
  · simp [s, State.stAt]
  · exact ⟨State.wb_resetOf cfg xa xb xc smp q, State.engine_resetOf cfg xa xb xc smp q⟩
  · exact State.lockOf_resetOf cfg xa xb xc smp c

end Sys2Proof.Proofs
end

section
/-! PROOFS. CSR access: the fields of each read view (R40 to R48), and the rejected numbers (R49). -/

namespace Sys2Proof.Machine

open Sys2Proof Sys2Proof.Claims

variable (s : State)

/-! ### Fields of a word -/

/-- Bits side by side, as a number. -/
theorem toNat_append_eq_add {m n : Nat} (x : BitVec m) (y : BitVec n) :
    (x ++ y).toNat = x.toNat * 2 ^ n + y.toNat := by
  rw [BitVec.toNat_append, ← Nat.shiftLeft_add_eq_or_of_lt y.isLt, Nat.shiftLeft_eq]

theorem toNat_bit_lt (b : Bool) : (bit b).toNat < 2 := (bit b).isLt

/-- A field of one bit shows the bit. -/
@[simp] theorem toNat_bit_eq_one (b : Bool) : (bit b).toNat = 1 ↔ b = true := by cases b <;> decide

/-- The three numbers of a lock (R43). -/
theorem lockNumber_shows (l : Option CorePort) :
    ((lockNumber l).toNat = 0 ↔ l = none) ∧ ((lockNumber l).toNat = 1 ↔ l = some .a) ∧
      ((lockNumber l).toNat = 2 ↔ l = some .b) := by
  rcases l with _ | _ | _ <;> decide

/-- The four numbers of the barrier (R37). -/
theorem BarState.number_shows (b : BarState) :
    (b.number.toNat = 0 ↔ b = .idle) ∧ (b.number.toNat = 1 ↔ b = .goPending) ∧
      (b.number.toNat = 2 ↔ b = .bActive) ∧ (b.number.toNat = 3 ↔ b = .donePending) := by
  cases b <;> decide

/-- The five numbers of an ownership value (R31). -/
theorem Own.number_shows (o : Own) :
    (o.number.toNat = 0 ↔ o = .free) ∧ (o.number.toNat = 1 ↔ o = .prod) ∧ (o.number.toNat = 2 ↔ o = .split) ∧
      (o.number.toNat = 3 ↔ o = .queued) ∧ (o.number.toNat = 4 ↔ o = .cons) := by
  cases o <;> decide

theorem State.engineBusy_port_iff (q : CorePort) : s.engineBusy q.port = true ↔ s.engine q ≠ .idle := by
  simp [State.engineBusy_port]

/-- The model's count of ownership values is the number of buffers that have one of them. -/
theorem State.countOwn_eq_card (os : List Own) :
    s.countOwn os = ((Finset.range s.cfg.nbuf).filter fun b => s.ownOf b ∈ os).card := by
  rw [State.countOwn, ← Nat.count_eq_card_filter_range, Nat.count, List.countP_eq_length_filter]
  simp

theorem State.countOwn_pair (o o' : Own) : s.countOwn [o, o'] = owned s o o' := by
  simp [State.countOwn_eq_card, owned]

theorem State.countOwn_single (o : Own) : s.countOwn [o] = owned s o o := by
  simp [State.countOwn_eq_card, owned]

theorem State.irqB_iff : s.irqB = true ↔ s.bar = .goPending ∧ s.goIe = true := by
  simp [State.irqB]

/-! ### The registers -/

theorem cfg0Word_fields (c : Params) :
    bitField (cfg0Word c) 7 0 = c.nbuf % 256 ∧ bitField (cfg0Word c) 15 8 = c.nband % 256 ∧
      bitField (cfg0Word c) 20 16 = c.coefFrac % 32 ∧
      bitField (cfg0Word c) 21 21 = (bit (decide (c.accMode = .stepwise))).toNat ∧
      bitField (cfg0Word c) 31 22 = 0 := by
  have hmode := toNat_bit_lt (decide (c.accMode = .stepwise))
  simp only [bitField, cfg0Word, toNat_append_eq_add, BitVec.toNat_ofNat]
  omega

theorem cfg1Word_fields (c : Params) :
    bitField (cfg1Word c) 15 0 = c.cap % 65536 ∧ bitField (cfg1Word c) 31 16 = 0 := by
  simp only [bitField, cfg1Word, toNat_append_eq_add, BitVec.toNat_ofNat]
  omega

theorem statusWord_fields (x : Status) :
    bitField (statusWord x) 3 0 = x.cond.code.toNat ∧ bitField (statusWord x) 7 4 = x.cond.sub.toNat ∧
      bitField (statusWord x) 8 8 = (bit x.qf).toNat ∧ bitField (statusWord x) 31 9 = 0 := by
  have hqf := toNat_bit_lt x.qf
  have hcode := x.cond.code.isLt
  have hsub := x.cond.sub.isLt
  simp only [bitField, statusWord, toNat_append_eq_add, BitVec.toNat_ofNat]
  omega

theorem esrWord_fields (e : Esr) :
    bitField (esrWord e) 0 0 = (bit e.res).toNat ∧ bitField (esrWord e) 1 1 = (bit e.inv).toNat ∧
      bitField (esrWord e) 2 2 = (bit e.sat).toNat ∧ bitField (esrWord e) 31 3 = 0 := by
  have hres := toNat_bit_lt e.res
  have hinv := toNat_bit_lt e.inv
  have hsat := toNat_bit_lt e.sat
  simp only [bitField, esrWord, toNat_append_eq_add, BitVec.toNat_ofNat]
  omega

theorem State.eqctlWord_fields :
    bitField s.eqctlWord 0 0 = (bit s.eqEn).toNat ∧ bitField s.eqctlWord 1 1 = (bit s.coefDirty).toNat ∧
      bitField s.eqctlWord 2 2 = (bit (s.engineBusy .a)).toNat ∧
      bitField s.eqctlWord 3 3 = (bit (s.engineBusy .b)).toNat ∧
      bitField s.eqctlWord 5 4 = (lockNumber (s.lockOf 0)).toNat ∧
      bitField s.eqctlWord 7 6 = (lockNumber (s.lockOf 1)).toNat ∧ bitField s.eqctlWord 31 8 = 0 := by
  have hen := toNat_bit_lt s.eqEn
  have hdirty := toNat_bit_lt s.coefDirty
  have ha := toNat_bit_lt (s.engineBusy .a)
  have hb := toNat_bit_lt (s.engineBusy .b)
  have h0 := (lockNumber s.lock0).isLt
  have h1 := (lockNumber s.lock1).isLt
  show _ ∧ _ ∧ _ ∧ _ ∧ _ = (lockNumber s.lock0).toNat ∧ _ = (lockNumber s.lock1).toNat ∧ _
  simp only [bitField, State.eqctlWord, toNat_append_eq_add, BitVec.toNat_ofNat]
  omega

theorem State.poolstatWord_fields :
    bitField s.poolstatWord 7 0 = s.freeq.length % 256 ∧ bitField s.poolstatWord 15 8 = s.outq.length % 256 ∧
      bitField s.poolstatWord 23 16 = s.countOwn [.prod, .split] % 256 ∧
      bitField s.poolstatWord 31 24 = s.countOwn [.cons] % 256 := by
  simp only [bitField, State.poolstatWord, toNat_append_eq_add, BitVec.toNat_ofNat]
  omega

theorem State.barstatWord_fields :
    bitField s.barstatWord 1 0 = s.bar.number.toNat ∧ bitField s.barstatWord 7 2 = 0 ∧
      bitField s.barstatWord 15 8 = s.jobBuf.toNat ∧ bitField s.barstatWord 16 16 = (bit s.irqB).toNat ∧
      bitField s.barstatWord 31 17 = 0 := by
  have hbar := s.bar.number.isLt
  have hjob := s.jobBuf.isLt
  have hirq := toNat_bit_lt s.irqB
  simp only [bitField, State.barstatWord, toNat_append_eq_add, BitVec.toNat_ofNat]
  omega

theorem State.ieWord_fields : bitField s.ieWord 0 0 = (bit s.goIe).toNat ∧ bitField s.ieWord 31 1 = 0 := by
  have hie := toNat_bit_lt s.goIe
  simp only [bitField, State.ieWord, toNat_append_eq_add, BitVec.toNat_ofNat]
  omega

theorem State.bufstatWord_fields (b : Nat) :
    bitField (s.bufstatWord b) 2 0 = (s.ownOf b).number.toNat ∧ bitField (s.bufstatWord b) 15 3 = 0 ∧
      bitField (s.bufstatWord b) 31 16 = s.cntOf b % 65536 := by
  have hown := (s.ownOf b).number.isLt
  simp only [bitField, State.bufstatWord, toNat_append_eq_add, BitVec.toNat_ofNat]
  omega

/-- The numbers below the buffers' registers are none of theirs (R40). -/
theorem eq_bufstat_number_iff {n b : Nat} (hn : n < 256) : n = 256 + b ↔ False := by
  simp only [iff_false]
  omega

theorem bufstat_number_eq_iff {n b : Nat} (hn : n < 256) : 256 + b = n ↔ False := by
  rw [eq_comm, eq_bufstat_number_iff hn]

/-- What CSRRD returns shows the fields of its register. -/
theorem csrShows_csrRead (p : Port) (r : Csr) : csrShows s p r.number (s.csrRead p r) := by
  unfold csrShows
  cases r with
  | cfg0 => simp [Csr.number, State.csrRead, eq_bufstat_number_iff, cfg0Word_fields]
  | cfg1 => simp [Csr.number, State.csrRead, eq_bufstat_number_iff, cfg1Word_fields]
  | status => simp [Csr.number, State.csrRead, eq_bufstat_number_iff, statusWord_fields]
  | esr => simp [Csr.number, State.csrRead, eq_bufstat_number_iff, esrWord_fields]
  | eqctl =>
    have ha : s.engineBusy .a = true ↔ s.engine .a ≠ .idle := s.engineBusy_port_iff .a
    have hb : s.engineBusy .b = true ↔ s.engine .b ≠ .idle := s.engineBusy_port_iff .b
    simp [Csr.number, State.csrRead, eq_bufstat_number_iff, s.eqctlWord_fields, lockNumber_shows, ha, hb]
  | poolstat =>
    simp [Csr.number, State.csrRead, eq_bufstat_number_iff, s.poolstatWord_fields, State.countOwn_pair,
      State.countOwn_single]
  | overrun | underrun | satcnt => simp [Csr.number, State.csrRead, eq_bufstat_number_iff]
  | barstat =>
    simp [Csr.number, State.csrRead, eq_bufstat_number_iff, s.barstatWord_fields, BarState.number_shows,
      s.irqB_iff]
  | ie => simp [Csr.number, State.csrRead, eq_bufstat_number_iff, s.ieWord_fields]
  | bufstat b =>
    simp [Csr.number, State.csrRead, bufstat_number_eq_iff, s.bufstatWord_fields, Own.number_shows]

/-! ### The two commands -/

variable {s} {n : Half} {x : Csr}

/-- CSRRD of an implemented number answers the register's read view (R116). -/
theorem exec_csrrd_some {rd : Reg} (hx : csrAt s.cfg n.toNat = some x) :
    exec (.csrrd rd n) s = .next (s.answer rd (s.csrRead s.issuer x)) := by
  simp [exec, execCsrrd, hx]

theorem exec_csrrd_none {rd : Reg} (hx : csrAt s.cfg n.toNat = none) :
    exec (.csrrd rd n) s = .next (s.reject .csr) := by
  simp [exec, execCsrrd, hx]

theorem exec_csrwr_none {rs : Reg} (hx : csrAt s.cfg n.toNat = none) :
    exec (.csrwr rs n) s = .next (s.reject .csr) := by
  simp [exec, execCsrwr, hx]

/-- CSRWR of a register that is only read is rejected (R49). -/
theorem exec_csrwr_readOnly {rs : Reg} (hx : csrAt s.cfg n.toNat = some x) (hw : x.writable = false) :
    exec (.csrwr rs n) s = .next (s.reject .csr) := by
  simp [exec, execCsrwr, hx, State.evaluate, hw]

/-- An implemented number has a register. -/
theorem exists_csrAt {c : Params} {k : Nat} (h : csrImplemented c k) : ∃ x, csrAt c k = some x :=
  Option.ne_none_iff_exists'.mp fun hnone => csrAt_eq_none.mp hnone h

end Sys2Proof.Machine

namespace Sys2Proof.Proofs

open Sys2Proof Sys2Proof.Machine Sys2Proof.Claims

/-- Settles O22: CSRRD answers the read view of its register, whose fields are computed word by word. -/
theorem csrReadShowsTheFields : Obligations.CsrReadShowsTheFields := by
  unfold Obligations.CsrReadShowsTheFields
  intro s rd n himp
  obtain ⟨x, hx⟩ := exists_csrAt himp
  refine ⟨_, _, answersWith_answer (exec_csrrd_some hx) (.refl s) (.refl s), ?_⟩
  rw [csrAt_number hx]
  exact csrShows_csrRead s s.issuer x

/-- Settles O23: a number without a register, and a register that is only read, end in the rejection. -/
theorem unimplementedAndReadOnlyCsrsAreRejected : Obligations.UnimplementedAndReadOnlyCsrsAreRejected := by
  unfold Obligations.UnimplementedAndReadOnlyCsrsAreRejected
  intro s r n
  refine ⟨fun himp => ?_, fun himp hw => ?_⟩
  · have hnone := csrAt_eq_none.mpr himp
    exact ⟨rejected_of_reject (exec_csrrd_none hnone), rejected_of_reject (exec_csrwr_none hnone)⟩
  · obtain ⟨x, hx⟩ := exists_csrAt himp
    rw [csrAt_number hx, ← x.writable_iff, Bool.not_eq_true] at hw
    exact rejected_of_reject (exec_csrwr_readOnly hx hw)

end Sys2Proof.Proofs
end

section
/-! PROOFS. Posted writes: what draining an entry writes and what it leaves (R71). -/

namespace Sys2Proof.Machine

open Sys2Proof

variable {s : State} {q : CorePort} {e : Posted}

/-! ### The cell of an entry -/

/-- A sample cell that an entry does not name is left by it. -/
theorem State.smpAt_commitPosted_of_ne {b i : Nat} (he : ∀ v, e ≠ .smp b i v) :
    (s.commitPosted e).smpAt b i = s.smpAt b i := by
  cases e with
  | smp b' i' v =>
    have hcell : ¬(b = b' ∧ i = i') := by
      rintro ⟨rfl, rfl⟩
      exact he v rfl
    simp [hcell]
  | coef k j v => rfl

/-- A coefficient entry whose cell exists writes that cell and no other (R61). -/
theorem State.coefAt_commitPosted {c : Params} {k j : Nat} {v : Word}
    (hr : Params.entryInRange c (.coef k j v) = true) (k' j' : Nat) :
    (s.commitPosted (.coef k j v)).coefAt k' j' = if k' = k ∧ j' = j then v else s.coefAt k' j' := by
  have hj : j < 5 := by
    simp only [Params.entryInRange, Params.coefInRange, decide_eq_true_eq] at hr
    exact hr.2
  exact s.coefAt_setCoef k j v k' j' hj

/-- A coefficient cell that an entry does not name is left by it. -/
theorem State.coefAt_commitPosted_of_ne {c : Params} {k j : Nat} (hr : Params.entryInRange c e = true)
    (he : ∀ v, e ≠ .coef k j v) : (s.commitPosted e).coefAt k j = s.coefAt k j := by
  cases e with
  | smp b i v => rfl
  | coef k' j' v =>
    have hcell : ¬(k = k' ∧ j = j') := by
      rintro ⟨rfl, rfl⟩
      exact he v rfl
    rw [State.coefAt_commitPosted hr, if_neg hcell]

/-! ### What a drain leaves -/

@[simp] theorem State.commitPosted_sched (s : State) (e : Posted) : (s.commitPosted e).sched = s.sched := by
  cases e <;> rfl

theorem SharedKept.withSched (s : State) (rest : List Agent) : SharedKept [] s { s with sched := rest } :=
  ⟨fun x _ => by cases x <;> simp only [Part.kept] <;> intros <;> rfl, rfl⟩

/-- Of the shared pieces, a change of a buffer's entries changes the buffers alone. -/
theorem SharedKept.setWb (s : State) (q : CorePort) (w : List Posted) : SharedKept [.posted] s (s.setWb q w) :=
  ⟨fun x hx => by cases x <;> simp_all [Part.kept, State.coefAt, State.stAt], rfl⟩

/-- Of the shared pieces, a sample's write changes the samples alone. -/
theorem SharedKept.setSmp (s : State) (b i : Nat) (v : Half) : SharedKept [.samples] s (s.setSmp b i v) :=
  ⟨fun x hx => by cases x <;> simp_all [Part.kept, State.coefAt, State.stAt], rfl⟩

/-- Of the shared pieces, a coefficient's write changes the coefficients alone. -/
theorem SharedKept.setCoef (s : State) (k j : Nat) (v : Word) : SharedKept [.coefs] s (s.setCoef k j v) :=
  ⟨fun x hx => by cases x <;> simp_all [Part.kept, State.stAt], rfl⟩

/-- Of the shared pieces, an entry's write changes the two memories alone. -/
theorem SharedKept.commitPosted (s : State) (e : Posted) :
    SharedKept [.samples, .coefs] s (s.commitPosted e) := by
  cases e with
  | smp b i v => exact (SharedKept.setSmp s b i v).mono (by simp)
  | coef k j v => exact (SharedKept.setCoef s k j v).mono (by simp)

/-- The drain of an oldest entry whose cell exists takes it out and writes it. -/
theorem State.drainStep_cons {tail : List Posted} (hw : s.wb q = e :: tail)
    (hr : Params.entryInRange s.cfg e = true) : s.drainStep q = .next ((s.setWb q tail).commitPosted e) := by
  simp [State.drainStep, hw, hr]

end Sys2Proof.Machine

namespace Sys2Proof.Proofs

open Sys2Proof Sys2Proof.Machine

/-- Settles O7: the drain moves the schedule on, takes the entry out and writes it; each of the three is known by what
it leaves. -/
theorem drainStepWritesTheOldestEntry : Obligations.DrainStepWritesTheOldestEntry := by
  unfold Obligations.DrainStepWritesTheOldestEntry
  intro s q rest e tail hl hs hw hr
  let u := ({ s with sched := rest } : State).setWb q tail
  have hstep : step s = .next (u.commitPosted e) := (step_cons hl hs).trans (State.drainStep_cons hw hr)
  have hsame : SameRuns u (u.commitPosted e) := .commitPosted u e
  have hshared : SharedKept [.samples, .coefs, .posted] s (u.commitPosted e) :=
    (((SharedKept.withSched s rest).mono (by simp)).trans ((SharedKept.setWb _ q tail).mono (by simp))).trans
      ((SharedKept.commitPosted u e).mono (by simp))
  refine ⟨u.commitPosted e, hstep, ?_, fun q' hq' => ?_, ?_, fun b i he => ?_, ?_, fun k j he => ?_, hshared,
    hsame.ports, State.commitPosted_sched u e⟩
  · rw [hsame.buffers, State.wb_setWb, if_pos rfl]
  · rw [hsame.buffers, State.wb_setWb, if_neg hq']; rfl
  · rintro b i v rfl
    simp
  · exact State.smpAt_commitPosted_of_ne he
  · rintro k j v rfl
    rw [State.coefAt_commitPosted hr, if_pos ⟨rfl, rfl⟩]
  · exact State.coefAt_commitPosted_of_ne hr he

end Sys2Proof.Proofs
end

section
/-! PROOFS. The decoder and the encoder: what a command's row asks of a word, and that decoding reads exactly what
encoding writes (spec/30_encoding.md R90 to R99). -/

namespace Sys2Proof

open Sys2Proof.Laws

variable {w : Word} {i : Instr}

/-! ### The row of a command -/

/-- The must-be-zero bits of the command's row, by shape (R95). -/
def Instr.zeroBits : Instr → List (Nat × Nat)
  | .nop | .flush | .commit | .done | .join | .fence => [(23, 0)]
  | .ldi _ _ | .ldih _ _ | .csrrd _ _ | .csrwr _ _ | .strd _ _ _ _ => [(19, 16)]
  | .coefwr _ _ _ | .coefrd _ _ _ => [(19, 12)]
  | .eqen _ => [(23, 1)]
  | .bqrun _ _ => [(23, 20), (15, 1)]
  | .sadd32 _ _ _ | .ssub32 _ _ _ | .sadd16 _ _ _ | .ssub16 _ _ _ | .mulh _ _ _ | .smul31 _ _ _ | .smul15 _ _ _
  | .sts _ _ _ | .lds _ _ _ | .stf _ _ _ | .ldf _ _ _ => [(11, 0)]
  | .mov _ _ | .sneg32 _ _ | .sneg16 _ _ | .q15to31 _ _ | .q31to15 _ _ | .sat16 _ _ | .getcnt _ _ => [(15, 0)]
  | .take _ | .takeb _ | .ctake _ | .accept _ => [(19, 0)]
  | .get _ | .give _ | .cgive _ | .fork _ => [(23, 20), (15, 0)]
  | .setcnt _ _ => [(23, 20), (11, 0)]
  | .mulhs _ _ _ _ => [(11, 5)]
  | .sshl32 _ _ _ | .asr32 _ _ _ => [(15, 5)]

/-- The command of the same row whose operands are the fields of `w` (R90, R92). -/
def Instr.readFrom (w : Word) : Instr → Instr
  | .nop => .nop
  | .ldi _ _ => .ldi (rdField w) (immField w)
  | .ldih _ _ => .ldih (rdField w) (immField w)
  | .mov _ _ => .mov (rdField w) (raField w)
  | .get _ => .get (raField w)
  | .csrrd _ _ => .csrrd (rdField w) (immField w)
  | .csrwr _ _ => .csrwr (rdField w) (immField w)
  | .sadd32 _ _ _ => .sadd32 (rdField w) (raField w) (rbField w)
  | .ssub32 _ _ _ => .ssub32 (rdField w) (raField w) (rbField w)
  | .sadd16 _ _ _ => .sadd16 (rdField w) (raField w) (rbField w)
  | .ssub16 _ _ _ => .ssub16 (rdField w) (raField w) (rbField w)
  | .sneg32 _ _ => .sneg32 (rdField w) (raField w)
  | .sneg16 _ _ => .sneg16 (rdField w) (raField w)
  | .q15to31 _ _ => .q15to31 (rdField w) (raField w)
  | .q31to15 _ _ => .q31to15 (rdField w) (raField w)
  | .mulh _ _ _ => .mulh (rdField w) (raField w) (rbField w)
  | .smul31 _ _ _ => .smul31 (rdField w) (raField w) (rbField w)
  | .smul15 _ _ _ => .smul15 (rdField w) (raField w) (rbField w)
  | .mulhs _ _ _ _ => .mulhs (rdField w) (raField w) (rbField w) (bitField w 4 0)
  | .sshl32 _ _ _ => .sshl32 (rdField w) (raField w) (bitField w 4 0)
  | .asr32 _ _ _ => .asr32 (rdField w) (raField w) (bitField w 4 0)
  | .sat16 _ _ => .sat16 (rdField w) (raField w)
  | .take _ => .take (rdField w)
  | .takeb _ => .takeb (rdField w)
  | .give _ => .give (raField w)
  | .ctake _ => .ctake (rdField w)
  | .cgive _ => .cgive (raField w)
  | .setcnt _ _ => .setcnt (raField w) (rbField w)
  | .getcnt _ _ => .getcnt (rdField w) (raField w)
  | .sts _ _ _ => .sts (rdField w) (raField w) (rbField w)
  | .lds _ _ _ => .lds (rdField w) (raField w) (rbField w)
  | .stf _ _ _ => .stf (rdField w) (raField w) (rbField w)
  | .ldf _ _ _ => .ldf (rdField w) (raField w) (rbField w)
  | .flush => .flush
  | .coefwr _ _ _ => .coefwr (rdField w) (bitField w 11 4) (bitField w 3 0)
  | .coefrd _ _ _ => .coefrd (rdField w) (bitField w 11 4) (bitField w 3 0)
  | .commit => .commit
  | .eqen _ => .eqen (decide (bitField w 0 0 = 1))
  | .bqrun _ _ => .bqrun (raField w) (Fin.ofNat 2 w.toNat)
  | .strd _ _ _ _ => .strd (rdField w) (bitField w 15 12) (bitField w 11 4) (bitField w 3 0)
  | .fork _ => .fork (raField w)
  | .accept _ => .accept (rdField w)
  | .done => .done
  | .join => .join
  | .fence => .fence

/-- The word is in the command's row: it has the row's `op` and zeros where the row asks for them (R94, R95). -/
def Instr.InRow (i : Instr) (w : Word) : Prop :=
  bitField w 31 24 = opOf i ∧ ∀ r ∈ i.zeroBits, bitField w r.1 r.2 = 0

/-! ### Ranges of bits -/

/-- The bits of a range are bits of the word. -/
theorem testBit_bitField (w : Word) (hi lo j : Nat) :
    (bitField w hi lo).testBit j = (decide (j < hi + 1 - lo) && w.getLsbD (lo + j)) := by
  rw [bitField, Nat.testBit_mod_two_pow, Nat.testBit_div_two_pow, BitVec.testBit_toNat, Nat.add_comm j lo]

/-- A range within one that reads as zero reads as zero. -/
theorem bitField_eq_zero_of_within {hi lo hi' lo' : Nat} (hz : bitField w hi lo = 0) (hhi : hi' ≤ hi)
    (hlo : lo ≤ lo') : bitField w hi' lo' = 0 := by
  refine Nat.eq_of_testBit_eq fun j => ?_
  have hbit : (bitField w hi lo).testBit (lo' - lo + j) = false := by rw [hz, Nat.zero_testBit]
  rw [testBit_bitField, show lo + (lo' - lo + j) = lo' + j by omega, Bool.and_eq_false_imp] at hbit
  rw [testBit_bitField, Nat.zero_testBit, Bool.and_eq_false_imp]
  simp only [decide_eq_true_eq] at *
  exact fun hj => hbit (by omega)

/-- A range of bits cut at bit `up`. -/
theorem bitField_split (w : Word) (hi up mid lo : Nat)
    (h : lo ≤ up ∧ up = mid + 1 ∧ up ≤ hi + 1 := by decide) :
    bitField w hi lo = bitField w hi up * 2 ^ (up - lo) + bitField w mid lo := by
  obtain ⟨hlo, rfl, hhi⟩ := h
  have hcut : hi + 1 - lo = (mid + 1 - lo) + (hi + 1 - (mid + 1)) := by omega
  have hup : 2 ^ (mid + 1) = 2 ^ lo * 2 ^ (mid + 1 - lo) := by rw [← Nat.pow_add, Nat.add_sub_cancel' hlo]
  rw [bitField, hcut, Nat.pow_add, Nat.mod_mul, Nat.div_div_eq_div_mul, ← hup, Nat.add_comm, Nat.mul_comm]
  rfl

/-- A range of bits whose upper part is zero. -/
theorem bitField_of_upper_zero {hi up mid lo : Nat} (hz : bitField w hi up = 0)
    (h : lo ≤ up ∧ up = mid + 1 ∧ up ≤ hi + 1 := by decide) : bitField w hi lo = bitField w mid lo := by
  rw [bitField_split w hi up mid lo h, hz, Nat.zero_mul, Nat.zero_add]

theorem regField_val (w : Word) (lo : Nat) : (regField w lo).val = w.toNat / 2 ^ lo % 16 := rfl

theorem toNat_immField (w : Word) : (immField w).toNat = bitField w 15 0 := by simp [immField, bitField]

/-- The operand of EQEN (R200). -/
theorem toNat_decide_lowBit (w : Word) : (decide (bitField w 0 0 = 1)).toNat = bitField w 0 0 := by
  have hlt : bitField w 0 0 < 2 := Nat.mod_lt _ (by decide)
  interval_cases bitField w 0 0 <;> rfl

/-- The channel of BQRUN (R203). -/
theorem val_ofNat_two (w : Word) : (Fin.ofNat 2 w.toNat).val = bitField w 0 0 := by simp [bitField]

/-! ### What the decoder answers -/

theorem whenZero_eq_ok {ranges : List (Nat × Nat)} {j : Instr} :
    whenZero w ranges j = .ok i ↔ (∀ r ∈ ranges, bitField w r.1 r.2 = 0) ∧ j = i := by
  simp only [whenZero, List.all_eq_true, decide_eq_true_eq]
  split <;> simp_all

/-- The decoder at the `op` of a row. -/
theorem decode_of_op (hop : bitField w 31 24 = opOf i) : decode w = whenZero w i.zeroBits (i.readFrom w) := by
  unfold decode
  rw [hop]
  cases i <;> rfl

/-- A word that decodes has the `op` of its command, whose operands are its fields. -/
theorem op_of_decode (hd : decode w = .ok i) : bitField w 31 24 = opOf i ∧ i.readFrom w = i := by
  unfold decode at hd
  split at hd
  case h_46 => cases hd
  all_goals
    obtain ⟨-, rfl⟩ := whenZero_eq_ok.mp hd
    exact ⟨‹_›, rfl⟩

theorem Instr.InRow.decode_eq (h : i.InRow w) : decode w = .ok (i.readFrom w) := by
  rw [decode_of_op h.1, whenZero_eq_ok]
  exact ⟨h.2, rfl⟩

/-- R96: a word decodes to a command exactly when it is in the command's row and its fields are the operands. -/
theorem decode_eq_ok_iff : decode w = .ok i ↔ i.InRow w ∧ i.readFrom w = i := by
  constructor
  · intro hd
    obtain ⟨hop, hread⟩ := op_of_decode hd
    rw [decode_of_op hop, whenZero_eq_ok] at hd
    exact ⟨⟨hop, hd.1⟩, hread⟩
  · rintro ⟨hrow, hread⟩
    rw [hrow.decode_eq, hread]

/-! ### Encoding, then decoding

The fields of a word lie side by side, so each is a remainder of a quotient of the word's number: with the word
written as such a number, every case below is linear arithmetic over the shape's own fields. -/

/-- The word of a well-formed command is in its row. -/
theorem inRow_encode (hwf : i.wellFormed = true) : i.InRow (encode i) := by
  cases i with
  | nop | flush | commit | done | join | fence => exact ⟨rfl, by decide⟩
  | eqen e => cases e <;> exact ⟨rfl, by decide⟩
  | _ =>
    simp only [Instr.wellFormed, decide_eq_true_eq] at hwf
    simp only [Instr.InRow, opOf, Instr.zeroBits, encode, packR, packI, bitField, BitVec.toNat_ofNat,
      List.forall_mem_cons, List.not_mem_nil, false_imp_iff, implies_true, and_true]
    omega

/-- The fields of a well-formed command's word are its operands. -/
theorem readFrom_encode (hwf : i.wellFormed = true) : i.readFrom (encode i) = i := by
  cases i with
  | nop | flush | commit | done | join | fence => rfl
  | eqen e => cases e <;> rfl
  | _ =>
    simp only [Instr.wellFormed, decide_eq_true_eq] at hwf
    simp [Instr.readFrom, encode, packR, packI, bitField, rdField, raField, rbField, immField, regField_val,
      Fin.ext_iff, ← BitVec.toNat_inj]
    omega

/-! ### Decoding, then encoding -/

/-- The fields of a word fit their places. -/
theorem wellFormed_readFrom (w : Word) (i : Instr) : (i.readFrom w).wellFormed = true := by
  cases i with
  | mulhs | sshl32 | asr32 | coefwr | coefrd | strd =>
    simp only [Instr.readFrom, Instr.wellFormed, bitField, decide_eq_true_eq]
    omega
  | _ => rfl

/-- A word of format R, RS or N is the word of its fields (R90). -/
theorem packR_of_fields {op rd ra rb fn : Nat} (hop : bitField w 31 24 = op) (hrd : bitField w 23 20 = rd)
    (hra : bitField w 19 16 = ra) (hrb : bitField w 15 12 = rb) (hfn : bitField w 11 0 = fn) :
    packR op rd ra rb fn = w := by
  have hlt := w.isLt
  apply BitVec.eq_of_toNat_eq
  simp only [packR, bitField, BitVec.toNat_ofNat] at *
  omega

/-- A word of format I is the word of its fields (R90). -/
theorem packI_of_fields {op rd ra imm : Nat} (hop : bitField w 31 24 = op) (hrd : bitField w 23 20 = rd)
    (hra : bitField w 19 16 = ra) (himm : bitField w 15 0 = imm) : packI op rd ra imm = w := by
  have hlt := w.isLt
  apply BitVec.eq_of_toNat_eq
  simp only [packI, bitField, BitVec.toNat_ofNat] at *
  omega

/-- Bits within a must-be-zero range of the row are zero. -/
theorem Instr.InRow.zero {hi lo : Nat} (h : i.InRow w)
    (hr : ∃ r ∈ i.zeroBits, hi ≤ r.1 ∧ r.2 ≤ lo := by simp [Instr.zeroBits]) : bitField w hi lo = 0 := by
  obtain ⟨r, hmem, hhi, hlo⟩ := hr
  exact bitField_eq_zero_of_within (h.2 r hmem) hhi hlo

/-- A word of the row is the word of its fields: shape by shape, what is no field is `op` or zero (R95). -/
theorem encode_readFrom (h : i.InRow w) : encode (i.readFrom w) = w := by
  have hop := h.1
  cases i with
  | nop | flush | commit | done | join | fence => exact packR_of_fields hop h.zero h.zero h.zero h.zero
  | ldi | ldih | csrrd | csrwr => exact packI_of_fields hop rfl h.zero (toNat_immField w).symm
  | coefwr | coefrd =>
    exact packI_of_fields hop rfl h.zero ((bitField_of_upper_zero (up := 12) h.zero).trans (bitField_split w 11 4 3 0))
  | strd =>
    refine packI_of_fields hop rfl h.zero ?_
    rw [bitField_split w 15 12 11 0, bitField_split w 11 4 3 0, Nat.add_assoc]
  | eqen =>
    exact packI_of_fields hop h.zero h.zero
      ((bitField_of_upper_zero (up := 1) h.zero).trans (toNat_decide_lowBit w).symm)
  | bqrun =>
    exact packI_of_fields hop h.zero rfl ((bitField_of_upper_zero (up := 1) h.zero).trans (val_ofNat_two w).symm)
  | sadd32 | ssub32 | sadd16 | ssub16 | mulh | smul31 | smul15 | sts | lds | stf | ldf =>
    exact packR_of_fields hop rfl rfl rfl h.zero
  | mov | sneg32 | sneg16 | q15to31 | q31to15 | sat16 | getcnt =>
    exact packR_of_fields hop rfl rfl h.zero h.zero
  | take | takeb | ctake | accept => exact packR_of_fields hop rfl h.zero h.zero h.zero
  | get | give | cgive | fork => exact packR_of_fields hop h.zero rfl h.zero h.zero
  | setcnt => exact packR_of_fields hop h.zero rfl rfl h.zero
  | mulhs => exact packR_of_fields hop rfl rfl rfl (bitField_of_upper_zero (up := 5) h.zero)
  | sshl32 | asr32 => exact packR_of_fields hop rfl rfl h.zero (bitField_of_upper_zero (up := 5) h.zero)

end Sys2Proof

namespace Sys2Proof.Proofs

open Sys2Proof

/-- Settles O1: the word of a command is in the command's row, and its fields are the operands. -/
theorem decodeOfEncodeIsTheCommand : Obligations.DecodeOfEncodeIsTheCommand := by
  unfold Obligations.DecodeOfEncodeIsTheCommand
  intro i hwf
  exact decode_eq_ok_iff.mpr ⟨inRow_encode hwf, readFrom_encode hwf⟩

/-- Settles O2: a word that decodes is in its command's row, and the command is read from its fields. -/
theorem encodeOfDecodeIsTheWord : Obligations.EncodeOfDecodeIsTheWord := by
  unfold Obligations.EncodeOfDecodeIsTheWord
  intro w i hd
  obtain ⟨hrow, hread⟩ := decode_eq_ok_iff.mp hd
  exact ⟨hread ▸ wellFormed_readFrom w i, by simpa only [hread] using encode_readFrom hrow⟩

end Sys2Proof.Proofs
end

section
/-! PROOFS. The opcode map: a row's match and mask say what the decoder checks (spec/30_encoding.md R94, R95). -/

namespace Sys2Proof

open Sys2Proof.Laws Sys2Proof.Claims

variable {w : Word} {i : Instr}

/-! ### Masks -/

/-- The word with ones in bits `hi` to `lo`. -/
def rangeMask (hi lo : Nat) : Word := BitVec.allOnes 32 >>> (31 - hi) &&& BitVec.allOnes 32 <<< lo

/-- The word with `v` from bit `lo` up. -/
def placed (v lo : Nat) : Word := BitVec.ofNat 32 v <<< lo

theorem getLsbD_rangeMask {hi lo k : Nat} (hhi : hi < 32) :
    (rangeMask hi lo).getLsbD k = (decide (lo ≤ k) && decide (k ≤ hi)) := by
  simp only [rangeMask, BitVec.getLsbD_and, BitVec.getLsbD_ushiftRight, BitVec.getLsbD_shiftLeft,
    BitVec.getLsbD_allOnes]
  grind

/-- Under the mask of a range a word is the range, in its place. -/
theorem and_rangeMask {hi lo : Nat} (hhi : hi < 32) : w &&& rangeMask hi lo = placed (bitField w hi lo) lo := by
  refine BitVec.eq_of_getLsbD_eq fun k hk => ?_
  rw [BitVec.getLsbD_and, getLsbD_rangeMask hhi, placed, BitVec.getLsbD_shiftLeft, BitVec.getLsbD_ofNat,
    testBit_bitField]
  grind

/-- Under the mask of a range a word is `v` there exactly when the range reads as `v`. -/
theorem and_rangeMask_eq_placed_iff {hi lo v : Nat} (hlo : lo ≤ hi) (hhi : hi < 32) (hv : v < 2 ^ (hi + 1 - lo)) :
    w &&& rangeMask hi lo = placed v lo ↔ bitField w hi lo = v := by
  have hplaced {n : Nat} (hn : n < 2 ^ (hi + 1 - lo)) : (placed n lo).toNat = n * 2 ^ lo := by
    have hlt : n * 2 ^ lo < 2 ^ 32 := calc
      n * 2 ^ lo < 2 ^ (hi + 1 - lo) * 2 ^ lo := Nat.mul_lt_mul_of_pos_right hn (by positivity)
      _ = 2 ^ (hi + 1) := by rw [← Nat.pow_add]; congr 1; omega
      _ ≤ 2 ^ 32 := Nat.pow_le_pow_right (by decide) hhi
    simpa [placed, Nat.shiftLeft_eq] using hlt
  have hfield : bitField w hi lo < 2 ^ (hi + 1 - lo) := Nat.mod_lt _ (by positivity)
  rw [and_rangeMask hhi, ← BitVec.toNat_inj, hplaced hfield, hplaced hv]
  exact Nat.mul_left_inj (by positivity)

theorem and_rangeMask_eq_zero_iff {hi lo : Nat} (hlo : lo ≤ hi) (hhi : hi < 32) :
    w &&& rangeMask hi lo = 0 ↔ bitField w hi lo = 0 := by
  simpa [placed] using and_rangeMask_eq_placed_iff (w := w) hlo hhi (v := 0) (by positivity)

/-- A mask of two parts, where the pattern lies in the second. -/
theorem and_or_eq_iff {m n p : Word} (hn : p &&& n = 0) (hm : p &&& m = p) :
    w &&& (n ||| m) = p ↔ w &&& n = 0 ∧ w &&& m = p := by
  have habsorb (x y : Word) : (x ||| y) &&& x = x := by
    ext k hk
    cases hx : x[k] <;> simp [hx]
  constructor
  · rintro rfl
    rw [BitVec.and_assoc, habsorb] at hn
    rw [BitVec.and_assoc, BitVec.or_comm, habsorb] at hm
    exact ⟨hn, BitVec.or_comm n m ▸ hm⟩
  · rintro ⟨hn, hm⟩
    rw [BitVec.and_or_distrib_left, hn, hm]
    exact BitVec.zero_or

/-- The mask that has the bits of `op` and of the given ranges (R95). -/
def maskOf (ranges : List (Nat × Nat)) : Word := ranges.foldr (fun r m => rangeMask r.1 r.2 ||| m) (rangeMask 31 24)

theorem maskOf_nil : maskOf [] = rangeMask 31 24 := rfl

theorem maskOf_cons (r : Nat × Nat) (rs : List (Nat × Nat)) :
    maskOf (r :: rs) = rangeMask r.1 r.2 ||| maskOf rs := rfl

theorem bitField_placed_op {op : Nat} (hop : op < 256) : bitField (placed op 24) 31 24 = op := by
  simp only [bitField, placed, BitVec.toNat_shiftLeft, BitVec.toNat_ofNat, Nat.shiftLeft_eq]
  omega

theorem bitField_placed_eq_zero {op hi lo : Nat} (hhi : hi < 24) : bitField (placed op 24) hi lo = 0 := by
  refine Nat.eq_of_testBit_eq fun j => ?_
  rw [testBit_bitField, placed, BitVec.getLsbD_shiftLeft, Nat.zero_testBit]
  grind

/-- A word matches an `op` under a mask exactly when it has the `op` and zeros in the mask's ranges. -/
theorem and_maskOf_eq_iff {op : Nat} (hop : op < 256) {ranges : List (Nat × Nat)}
    (hr : ∀ r ∈ ranges, r.2 ≤ r.1 ∧ r.1 < 24) :
    w &&& maskOf ranges = placed op 24 ↔ bitField w 31 24 = op ∧ ∀ r ∈ ranges, bitField w r.1 r.2 = 0 := by
  induction ranges generalizing w with
  | nil =>
    rw [maskOf_nil, and_rangeMask_eq_placed_iff (by decide) (by decide) hop]
    simp
  | cons r rs ih =>
    rw [List.forall_mem_cons] at hr ⊢
    obtain ⟨⟨hlo, hhi⟩, hrs⟩ := hr
    have hzero := and_rangeMask_eq_zero_iff (w := placed op 24) hlo (by omega)
    have hpattern : placed op 24 &&& maskOf rs = placed op 24 :=
      (ih hrs).mpr ⟨bitField_placed_op hop, fun r hr => bitField_placed_eq_zero (hrs r hr).2⟩
    rw [maskOf_cons, and_or_eq_iff (hzero.mpr (bitField_placed_eq_zero hhi)) hpattern,
      and_rangeMask_eq_zero_iff hlo (by omega), ih hrs, and_left_comm]

/-! ### Rows -/

/-- The command's row of the opcode map. -/
def Instr.row (i : Instr) : OpcodeRow := ⟨mnemonicOf i, placed (opOf i) 24, maskOf i.zeroBits⟩

/-- One command of each row, in the map's order. -/
def oneOfEach : List Instr :=
  [.nop, .ldi 0 0, .ldih 0 0, .mov 0 0, .get 0, .csrrd 0 0, .csrwr 0 0, .sadd32 0 0 0, .ssub32 0 0 0, .sadd16 0 0 0,
    .ssub16 0 0 0, .sneg32 0 0, .sneg16 0 0, .q15to31 0 0, .q31to15 0 0, .mulh 0 0 0, .smul31 0 0 0, .smul15 0 0 0,
    .mulhs 0 0 0 0, .sshl32 0 0 0, .asr32 0 0 0, .sat16 0 0, .take 0, .takeb 0, .give 0, .ctake 0, .cgive 0,
    .setcnt 0 0, .getcnt 0 0, .sts 0 0 0, .lds 0 0 0, .stf 0 0 0, .ldf 0 0 0, .flush, .coefwr 0 0 0, .coefrd 0 0 0,
    .commit, .eqen false, .bqrun 0 0, .strd 0 0 0 0, .fork 0, .accept 0, .done, .join, .fence]

/-- The map's rows are those of the commands: its masks are the decoder's must-be-zero bits (R95). -/
theorem opcodeRows_eq : opcodeRows = oneOfEach.map Instr.row := by rfl

theorem opcodeRows_names_nodup : (opcodeRows.map OpcodeRow.name).Nodup := by decide

@[simp] theorem Instr.row_readFrom (w : Word) (i : Instr) : (i.readFrom w).row = i.row := by cases i <;> rfl

theorem readFrom_zero_mem_oneOfEach (i : Instr) : i.readFrom 0 ∈ oneOfEach := by
  cases i <;> (simp only [Instr.readFrom]; decide)

theorem Instr.row_mem (i : Instr) : i.row ∈ opcodeRows := by
  rw [opcodeRows_eq, ← i.row_readFrom 0]
  exact List.mem_map_of_mem (readFrom_zero_mem_oneOfEach i)

theorem exists_row_eq {row : OpcodeRow} (hrow : row ∈ opcodeRows) : ∃ i : Instr, i.row = row := by
  rw [opcodeRows_eq, List.mem_map] at hrow
  obtain ⟨i, -, hi⟩ := hrow
  exact ⟨i, hi⟩

/-- A mnemonic has one row. -/
theorem Instr.row_eq_of_name {row : OpcodeRow} (hrow : row ∈ opcodeRows) (hname : mnemonicOf i = row.name) :
    i.row = row :=
  List.inj_on_of_nodup_map opcodeRows_names_nodup i.row_mem hrow hname

theorem opOf_lt (i : Instr) : opOf i < 256 := by cases i <;> simp [opOf]

theorem Instr.zeroBits_below_op (i : Instr) : ∀ r ∈ i.zeroBits, r.2 ≤ r.1 ∧ r.1 < 24 := by
  cases i <;> simp [Instr.zeroBits]

/-- A word matches a command's row under its mask exactly when it is in the row. -/
theorem Instr.matches_row_iff (i : Instr) (w : Word) : w &&& i.row.mask = i.row.pattern ↔ i.InRow w :=
  and_maskOf_eq_iff (opOf_lt i) i.zeroBits_below_op

/-- R94: a word matches a row exactly when it decodes to a command with the row's mnemonic. -/
theorem matches_iff_decode {row : OpcodeRow} (hrow : row ∈ opcodeRows) :
    w &&& row.mask = row.pattern ↔ ∃ i, decode w = .ok i ∧ mnemonicOf i = row.name := by
  constructor
  · obtain ⟨i, rfl⟩ := exists_row_eq hrow
    intro hm
    exact ⟨i.readFrom w, ((i.matches_row_iff w).mp hm).decode_eq, congrArg OpcodeRow.name (i.row_readFrom w)⟩
  · rintro ⟨i, hd, hname⟩
    rw [← i.row_eq_of_name hrow hname, i.matches_row_iff]
    exact (decode_eq_ok_iff.mp hd).1

end Sys2Proof

namespace Sys2Proof.Proofs

open Sys2Proof Sys2Proof.Claims

/-- Settles O3: to match a row is to decode to a command of it, and a word decodes to one command. -/
theorem matchAndMaskTellTheCommand : Obligations.MatchAndMaskTellTheCommand := by
  unfold Obligations.MatchAndMaskTellTheCommand
  intro w row hrow
  refine ⟨matches_iff_decode hrow, fun hm row' hrow' hm' => ?_⟩
  obtain ⟨i, hd, hname⟩ := (matches_iff_decode hrow).mp hm
  obtain ⟨i', hd', hname'⟩ := (matches_iff_decode hrow').mp hm'
  obtain rfl : i = i' := Except.ok.inj (hd.symm.trans hd')
  exact hname'.symm.trans hname

end Sys2Proof.Proofs
end

section
/-! PROOFS. Reserved encodings: what the rejection of a presented word leaves (spec/30_encoding.md R99). -/

namespace Sys2Proof.Machine

open Sys2Proof Sys2Proof.Claims

variable {s : State} {w : Word}

/-- A word that matches no row is no command. -/
theorem decode_of_matches_no_row (hw : ∀ row, row ∈ opcodeRows → w &&& row.mask ≠ row.pattern) :
    ∃ e, decode w = .error e := by
  cases hd : decode w with
  | error e => exact ⟨e, rfl⟩
  | ok i => exact absurd ((i.matches_row_iff w).mpr (decode_eq_ok_iff.mp hd).1) (hw _ i.row_mem)

theorem runWord_error {e : DecodeError} (hd : decode w = .error e) : runWord w s = .next (s.reject .reserved) := by
  simp [runWord, hd]

theorem SharedKept.withEsr (s : State) (e : Esr) : SharedKept [.esr] s { s with esr := e } := by
  refine ⟨fun x hx => ?_, rfl⟩
  cases x with
  | esr => exact absurd (List.mem_singleton.mpr rfl) hx
  | _ => simp only [Part.kept] <;> intros <;> rfl

/-- Of the shared pieces, a rejection changes ESR alone. -/
theorem SharedKept.reject (s : State) (c : SubCause) : SharedKept [.esr] s (s.reject c) :=
  (SharedKept.withEsr s _).trans ((SharedKept.setPort _ _).mono (by simp))

/-- A rejection completes the command of the issuing port and touches no other port. -/
theorem State.port_reject (s : State) (c : SubCause) (p : Port) :
    (s.reject c).port p = if p = s.issuer then
      { s.port s.issuer with
        status := { (s.port s.issuer).status with cond := .invalidParameter c }
        cp := (s.port s.issuer).cp + 1
        outstanding := none
        resp := some { cond := .invalidParameter c, rdata := 0 } }
    else s.port p :=
  State.port_respond _ _ _ _ p

/-- A word presented and rejected at once, the schedule moved on, is a rejection from the state before. -/
theorem rejects_reject_present (s : State) (rest : List Agent) (p : Port) (w : Word) (c : SubCause) :
    Rejects p c s ((({ s with sched := rest } : State).present p w).reject c) := by
  let u := ({ s with sched := rest } : State).present p w
  have hpresent : u.port p = { s.port p with outstanding := some w } := (State.port_present _ p w p).trans (if_pos rfl)
  have hport := (u.port_reject c p).trans (if_pos rfl)
  have hissuer : u.issuer = p := rfl
  rw [hissuer, hpresent] at hport
  refine ⟨⟨?_, ?_, ?_, ?_⟩, rfl, rfl, rfl, ?_, fun r => ?_, ?_, fun p' hp' => ?_, ?_⟩
  · rw [hport]
  · rw [hport]
  · rw [hport]
  · rw [hport]
  · rw [QfKept, hport]
  · rw [State.reg, hport]; rfl
  · exact ((SharedKept.present_withSched s rest p w).mono (by simp)).trans (.reject u c)
  · calc (u.reject c).port p'
      _ = u.port p' := (u.port_reject c p').trans (if_neg hp')
      _ = s.port p' := (State.port_present _ p w p').trans (if_neg hp')
  · rw [hport]

end Sys2Proof.Machine

namespace Sys2Proof.Proofs

open Sys2Proof Sys2Proof.Machine Sys2Proof.Claims

/-- Settles O6: no row means no command, and the rejection of a presented word keeps the rest. -/
theorem reservedWordsAreRejected : Obligations.ReservedWordsAreRejected := by
  unfold Obligations.ReservedWordsAreRejected
  intro s p rest w hl hs hb hw hrow
  obtain ⟨e, he⟩ := decode_of_matches_no_row hrow
  have hreject := rejects_reject_present s rest p w .reserved
  have hcond := hreject.1.1
  refine ⟨_, ?_, hreject, rfl, ?_, ?_⟩
  · rw [step_cons hl hs]
    exact (State.portStep_next (s := { s with sched := rest }) hb hw).trans (runWord_error he)
  · rw [hcond]; rfl
  · rw [hcond]; rfl

/-- Settles O4: each worked word is the word of its command, so it decodes to it by O1. -/
theorem workedWordsDecode : Obligations.WorkedWordsDecode := by
  unfold Obligations.WorkedWordsDecode
  have h (i : Instr) (hwf : i.wellFormed = true) : decode (encode i) = .ok i := decodeOfEncodeIsTheCommand i hwf
  exact ⟨h .nop rfl, h (.ldi 1 0xFFFF) rfl, h (.ldih 1 0x7FFF) rfl, h (.sadd32 3 1 2) rfl, h (.mulhs 4 1 2 4) rfl,
    h (.sts 7 0 5) rfl, h (.coefwr 5 3 2) rfl, h (.bqrun 2 1) rfl, h (.strd 6 1 7 3) rfl, h (.csrrd 9 0x0102) rfl,
    h (.fork 0) rfl, h .join rfl⟩

end Sys2Proof.Proofs
end

section
/-! PROOFS. Register movement (R111 to R115), and what a CSR write writes and what it leaves (R117). -/

namespace Sys2Proof.Machine

open Sys2Proof Sys2Proof.Claims

variable {s : State} {x : Csr} {n : Half}

/-! ### Register movement -/

theorem exec_nop (s : State) : exec .nop s = .next (s.okay 0) := rfl

theorem exec_get (ra : Reg) (s : State) : exec (.get ra) s = .next (s.okay (s.reg s.issuer ra)) := rfl

/-- LDI's word, `w32` of the immediate's value, is the immediate sign-extended (R112). -/
theorem exec_ldi (rd : Reg) (imm : Half) (s : State) :
    exec (.ldi rd imm) s = .next (s.answer rd (imm.signExtend 32)) := rfl

theorem exec_ldih (rd : Reg) (imm : Half) (s : State) :
    exec (.ldih rd imm) s = .next (s.answer rd (imm ++ lowHalf (s.reg s.issuer rd))) := rfl

theorem exec_mov (rd ra : Reg) (s : State) :
    exec (.mov rd ra) s = .next (s.answer rd (s.reg s.issuer ra)) := rfl

theorem lowHalf_eq_extractLsb' (w : Word) : lowHalf w = w.extractLsb' 0 16 := BitVec.setWidth_eq_extractLsb' (by decide)

/-! ### The effect of a CSR write -/

/-- CSRWR of a writable register completes over the register's write (R117). -/
theorem exec_csrwr_writable {rs : Reg} (hx : csrAt s.cfg n.toNat = some x) (hw : x.writable = true) :
    exec (.csrwr rs n) s = .next ((s.csrWrite s.issuer (s.reg s.issuer rs) x).okay 0) := by
  simp [exec, execCsrwr, hx, State.evaluate, firstFailed, hw, State.opd]

theorem csrImplemented_of_csrWritable {c : Params} {k : Nat} (h : csrWritable k) : csrImplemented c k := by
  simp only [csrWritable, List.mem_cons, List.not_mem_nil, or_false] at h
  exact .inl (by omega)

/-- A CSR write leaves the model's inputs. -/
theorem State.csrWrite_inputs (s : State) (p : Port) (v : Word) (r : Csr) :
    (s.csrWrite p v r).issuer = s.issuer ∧ (s.csrWrite p v r).sched = s.sched := by
  cases r with
  | status =>
    rw [State.csrWrite_status]
    split <;> exact ⟨rfl, rfl⟩
  | esr | overrun | underrun | satcnt | ie | cfg0 | cfg1 | eqctl | poolstat | barstat | bufstat => exact ⟨rfl, rfl⟩

/-- All that a CSR write changes of the ports is `QF` of the writing port, by bit 8 of STATUS (R41). -/
theorem State.port_csrWrite (s : State) (p : Port) (v : Word) (r : Csr) (p' : Port) :
    (s.csrWrite p v r).port p' =
      if p' = p then
        { s.port p with
          status := { (s.port p).status with
            qf := (s.port p).status.qf && !(decide (r = .status) && v.getLsbD 8) } }
      else s.port p' := by
  cases r with
  | status =>
    rw [State.csrWrite_status]
    split
    · next hv => simp only [State.port_clearQf, hv, decide_true, Bool.and_self, Bool.not_true, Bool.and_false]
    · next hv => by_cases hp : p' = p <;> simp_all
  | esr | overrun | underrun | satcnt | ie | cfg0 | cfg1 | eqctl | poolstat | barstat | bufstat =>
    by_cases hp : p' = p <;> simp [hp] <;> rfl

/-- Of the shared pieces, a CSR write changes the written register alone (R117). -/
theorem SharedKept.csrWrite (s : State) (p : Port) (v : Word) (r : Csr) :
    SharedKept (csrParts r.number) s (s.csrWrite p v r) := by
  cases r with
  | status =>
    rw [State.csrWrite_status]
    split
    · exact (SharedKept.setPort _ _).mono (by simp)
    · exact (SharedKept.refl s).mono (by simp)
  | esr => exact .withEsr s _
  | overrun | underrun | satcnt | ie =>
    refine ⟨fun x hx => ?_, rfl⟩
    cases x with
    | esr | overrun | underrun | satcnt | goIe => simp_all [csrParts, Csr.number, Part.kept, State.csrWrite]
    | _ => simp only [Part.kept]; intros; rfl
  | cfg0 | cfg1 | eqctl | poolstat | barstat | bufstat => exact (SharedKept.refl s).mono (by simp)

/-- ESR keeps the bits that are not written as 1 (R42). -/
theorem Esr.clear_iff (e : Esr) (v : Word) :
    ((e.clear v).res = true ↔ e.res = true ∧ v.getLsbD 0 = false) ∧
    ((e.clear v).inv = true ↔ e.inv = true ∧ v.getLsbD 1 = false) ∧
    ((e.clear v).sat = true ↔ e.sat = true ∧ v.getLsbD 2 = false) := by
  simp [Esr.clear]

/-- Everything a completion over a CSR write does to the ports. -/
theorem State.port_okay_csrWrite (s : State) (v : Word) (r : Csr) (p' : Port) :
    ((s.csrWrite s.issuer v r).okay 0).port p' =
      if p' = s.issuer then
        { s.port s.issuer with
          status := {
            cond := .ok
            qf := (s.port s.issuer).status.qf && !(decide (r = .status) && v.getLsbD 8) }
          cp := (s.port s.issuer).cp + 1
          outstanding := none
          resp := some { cond := .ok, rdata := 0 } }
      else s.port p' := by
  obtain ⟨hissuer, -⟩ := s.csrWrite_inputs s.issuer v r
  by_cases hp : p' = s.issuer <;> simp [State.okay, State.port_respond, State.port_csrWrite, hissuer, hp]

/-- Completing over a CSR write answers 0 and keeps all but STATUS, the response, `cp` and the written register. -/
theorem State.okay_csrWrite (s : State) (v : Word) (r : Csr) :
    let t := (s.csrWrite s.issuer v r).okay 0
    Responded s.issuer .ok 0 s t ∧ RegsKept s.issuer s t ∧ Kept s.issuer (csrParts r.number) s t ∧
      (t.port s.issuer).status.qf = ((s.port s.issuer).status.qf && !(decide (r = .status) && v.getLsbD 8)) := by
  intro t
  obtain ⟨hissuer, hsched⟩ := s.csrWrite_inputs s.issuer v r
  have hshared : SharedKept (csrParts r.number) s t :=
    (SharedKept.csrWrite s s.issuer v r).trans ((SharedKept.okay 0).mono (by simp))
  have hother : OtherPortsKept s.issuer s t := fun p' hp' => (s.port_okay_csrWrite v r p').trans (if_neg hp')
  have hport := (s.port_okay_csrWrite v r s.issuer).trans (if_pos rfl)
  refine ⟨?_, fun _ => ?_, ⟨hshared, hother, ?_, hissuer, hsched⟩, ?_⟩
  · rw [Responded, hport]; exact ⟨rfl, rfl, rfl, rfl⟩
  · rw [State.reg, hport]; rfl
  · rw [hport]
  · rw [hport]

end Sys2Proof.Machine

namespace Sys2Proof.Proofs

open Sys2Proof Sys2Proof.Machine Sys2Proof.Claims

/-- Settles O20: neither command has an effect besides its completion. -/
theorem nopAndGetOnlyAnswer : Obligations.NopAndGetOnlyAnswer := by
  unfold Obligations.NopAndGetOnlyAnswer
  intro s ra
  exact ⟨⟨_, completesWith_okay (exec_nop s) (.refl s) (.refl s)⟩,
    ⟨_, completesWith_okay (exec_get ra s) (.refl s) (.refl s)⟩⟩

/-- Settles O21: each command answers its word and has no other effect; the word of LDIH is read half by half. -/
theorem loadsAndMovesWriteOneRegister : Obligations.LoadsAndMovesWriteOneRegister := by
  unfold Obligations.LoadsAndMovesWriteOneRegister
  intro s rd ra imm
  refine ⟨⟨_, answersWith_answer (exec_ldi rd imm s) (.refl s) (.refl s)⟩,
    ⟨_, _, answersWith_answer (exec_ldih rd imm s) (.refl s) (.refl s), ?_, ?_⟩,
    ⟨_, answersWith_answer (exec_mov rd ra s) (.refl s) (.refl s)⟩⟩
  · exact BitVec.extractLsb'_append_eq_left
  · exact BitVec.extractLsb'_append_eq_right.trans (lowHalf_eq_extractLsb' _)

/-- Settles O24: a writable number has a writable register, over whose write the command completes; each clause names
its register by the number. -/
theorem csrWriteWritesOneRegister : Obligations.CsrWriteWritesOneRegister := by
  unfold Obligations.CsrWriteWritesOneRegister
  intro s rs n hn
  obtain ⟨x, hx⟩ := exists_csrAt (csrImplemented_of_csrWritable (c := s.cfg) hn)
  have hnum : n.toNat = x.number := csrAt_number hx
  have hw : x.writable = true := x.writable_iff.mpr (hnum ▸ hn)
  have hreg {r : Csr} {k : Nat} (hk : csrAt s.cfg k = some r) (h : n.toNat = k) : x = r :=
    Option.some.inj (hx.symm.trans (h ▸ hk))
  obtain ⟨hresp, hregs, hkept, hqf⟩ := s.okay_csrWrite (s.reg s.issuer rs) x
  refine ⟨_, exec_csrwr_writable hx hw, hresp, hregs, hnum ▸ hkept, fun h => ?_, fun h => ?_, fun h => ?_,
    fun h => ?_, fun h => ?_, fun h => ?_, fun h => ?_⟩
  · have hne : x ≠ .status := fun hs => h (hnum.trans (congrArg Csr.number hs))
    rw [QfKept, hqf]
    simp [hne]
  · obtain rfl : x = .status := hreg rfl h
    rw [hqf]
    simp
  · obtain rfl : x = .esr := hreg rfl h
    exact s.esr.clear_iff _
  · obtain rfl : x = .overrun := hreg rfl h
    rfl
  · obtain rfl : x = .underrun := hreg rfl h
    rfl
  · obtain rfl : x = .satcnt := hreg rfl h
    rfl
  · obtain rfl : x = .ie := hreg rfl h
    rfl

end Sys2Proof.Proofs
end

section
/-! PROOFS. The numbers of the fixed-point operations: floor shifts, the multiply-high, and the words they are written
as, bit by bit (R131, R132, R142, R143, R149). -/

namespace Sys2Proof.Machine

open Sys2Proof

/-! ### Shifts -/

/-- Floor division by a power of two, as the rules write it (R15). -/
theorem floorShr_eq_fdiv (n : Int) (k : Nat) : floorShr n k = n.fdiv ((2 ^ k : Nat) : Int) :=
  (Int.fdiv_eq_ediv_of_nonneg n (Int.natCast_nonneg _)).symm

theorem floorShr_eq_shiftRight (n : Int) (k : Nat) : floorShr n k = n >>> k :=
  (Int.shiftRight_eq_div_pow n k).symm

theorem scaleUp_eq_mul_two_pow (n : Int) (k : Nat) : scaleUp n k = n * 2 ^ k := by
  simp [scaleUp]

/-- A floor shift of a word's value, written as a word, is the arithmetic right shift of the word (R149). -/
theorem w32_floorShr (w : Word) (k : Nat) : w32 (floorShr (s32 w) k) = w.sshiftRight k := by
  rw [floorShr_eq_shiftRight]
  rfl

/-- The arithmetic right shift by 16 is the high half, sign-extended (R143). -/
theorem sshiftRight_sixteen (w : Word) : w.sshiftRight 16 = (w.extractLsb' 16 16).signExtend 32 := by
  ext i hi
  simp only [BitVec.getElem_sshiftRight, BitVec.getElem_signExtend, BitVec.getElem_extractLsb',
    BitVec.msb_eq_getLsbD_last, BitVec.getLsbD_extractLsb']
  by_cases h : i < 16
  · have h' : 16 + i < 32 := by omega
    simp [h, h', BitVec.getLsbD_eq_getElem]
  · have h' : ¬ 16 + i < 32 := by omega
    simp [h, h']

/-! ### The multiply-high -/

theorem mulHigh_eq_fdiv (a b : Word) : mulHigh a b = (a.toInt * b.toInt).fdiv 4294967296 :=
  floorShr_eq_fdiv (a.toInt * b.toInt) 32

/-- The form `omega` reads. -/
theorem mulHigh_eq_ediv (a b : Word) : mulHigh a b = a.toInt * b.toInt / 4294967296 := rfl

theorem mulHigh_comm (a b : Word) : mulHigh a b = mulHigh b a :=
  congrArg (floorShr · 32) (Int.mul_comm a.toInt b.toInt)

/-- The product of two words is at most `2^62` in size. -/
theorem abs_toInt_mul_toInt_le (a b : Word) : |a.toInt * b.toInt| ≤ 4611686018427387904 := by
  have habs (w : Word) : |w.toInt| ≤ 2147483648 := by
    have hlo := w.le_toInt
    have hhi := w.toInt_lt
    rw [abs_le]
    omega
  calc |a.toInt * b.toInt| = |a.toInt| * |b.toInt| := abs_mul _ _
    _ ≤ 2147483648 * 2147483648 := mul_le_mul (habs a) (habs b) (abs_nonneg _) (by norm_num)
    _ = 4611686018427387904 := by norm_num

/-- The product's bound, one word down (R131). -/
theorem mulHigh_bounds (a b : Word) : -1073741824 ≤ mulHigh a b ∧ mulHigh a b ≤ 1073741824 := by
  have hprod := abs_le.mp (abs_toInt_mul_toInt_le a b)
  rw [mulHigh_eq_ediv]
  omega

/-- The product of the sign-extended words is exact in 64 bits. -/
theorem toInt_signExtend_mul (a b : Word) :
    (a.signExtend 64 * b.signExtend 64).toInt = a.toInt * b.toInt := by
  have hprod := abs_le.mp (abs_toInt_mul_toInt_le a b)
  rw [BitVec.toInt_mul, BitVec.toInt_signExtend_of_le (by decide), BitVec.toInt_signExtend_of_le (by decide)]
  exact Int.bmod_eq_of_le (by norm_num; omega) (by norm_num; omega)

/-- The high word of a 64-bit number has the value of its floor by `2^32`. -/
theorem toInt_extractLsb'_high (x : BitVec 64) : (x.extractLsb' 32 32).toInt = x.toInt / 4294967296 := by
  have hx := x.isLt
  simp only [BitVec.toInt_eq_toNat_cond, BitVec.extractLsb'_toNat, Nat.shiftRight_eq_div_pow]
  split <;> split <;> omega

theorem mulHigh_eq_toInt_extractLsb' (a b : Word) :
    mulHigh a b = ((a.signExtend 64 * b.signExtend 64).extractLsb' 32 32).toInt := by
  rw [toInt_extractLsb'_high, toInt_signExtend_mul, mulHigh_eq_ediv]

/-- MULH's word is bits 63:32 of the product (R144). -/
theorem w32_mulHigh (a b : Word) :
    w32 (mulHigh a b) = (a.signExtend 64 * b.signExtend 64).extractLsb' 32 32 := by
  rw [mulHigh_eq_toInt_extractLsb']
  exact BitVec.ofInt_toInt

/-! ### Halves -/

theorem sext16_eq_toInt (w : Word) : sext16 w = (w.extractLsb' 0 16).toInt :=
  congrArg BitVec.toInt (lowHalf_eq_extractLsb' w)

/-- A half's value scaled by `2^16`, written as a word, is the half followed by zeros (R142). -/
theorem q15ToQ31_eq_append (h : Half) : q15ToQ31 h = h ++ 0#16 := by
  have hh := h.isLt
  apply BitVec.eq_of_toNat_eq
  simp only [q15ToQ31, w32, scaleUp, s16, BitVec.toNat_ofInt, toNat_append_eq_add, BitVec.toInt_eq_toNat_cond,
    BitVec.toNat_ofNat]
  split <;> omega

end Sys2Proof.Machine

namespace Sys2Proof.Proofs

open Sys2Proof Sys2Proof.Machine

/-- Settles O15: the product of two words is exact in 64 bits and at most `2^62` in size. -/
theorem multiplyHighIsTheHighWord : Obligations.MultiplyHighIsTheHighWord := by
  unfold Obligations.MultiplyHighIsTheHighWord
  exact ⟨fun a b => ⟨mulHigh_eq_fdiv a b, mulHigh_eq_toInt_extractLsb' a b, mulHigh_bounds a b⟩,
    by decide, by decide⟩

/-- Settles O16: each case is a fact about the floor of the product by `2^32`; replacing `a` by `-a` negates the
product. -/
theorem multiplyHighSigns : Obligations.MultiplyHighSigns := by
  unfold Obligations.MultiplyHighSigns
  refine ⟨fun a b => ⟨fun h => ?_, fun h => ⟨mulHigh_eq_fdiv a b, ?_⟩, fun h => ?_, mulHigh_comm a b,
    fun a' ha' => ?_⟩, by decide, by decide⟩
  · obtain rfl | rfl := h <;> simp [mulHigh_eq_ediv]
  · rw [mulHigh_eq_ediv]
    omega
  · rw [mulHigh_eq_ediv]
    omega
  · have hneg : a'.toInt * b.toInt = -(a.toInt * b.toInt) := by rw [ha', Int.neg_mul]
    rw [mulHigh_eq_ediv, mulHigh_eq_ediv, hneg]
    omega

end Sys2Proof.Proofs
end

section
/-! PROOFS. The fixed-point commands: each completes with its exact result, clamped to its range or, where it cannot
leave the range, as it is (R130, R133). -/

namespace Sys2Proof.Machine

open Sys2Proof Sys2Proof.Claims

/-! ### What the commands compute -/

section Commands

variable {s : State} {i : Instr} {rd : Reg}

/-- A command that saturates to 32 bits completes with its exact result, clamped (R133). -/
theorem exec_of_wordResult {n : Int} (h : wordResult s i = some (rd, n)) :
    exec i s = .next (s.answerClamped rd (sat32 n)) := by
  cases i with
  | sadd32 | ssub32 | sneg32 =>
    obtain ⟨rfl, rfl⟩ := Prod.mk.inj (Option.some.inj h)
    rfl
  | smul31 | mulhs | sshl32 =>
    obtain ⟨rfl, rfl⟩ := Prod.mk.inj (Option.some.inj h)
    simp only [exec, execSmul31, execMulhs, execSshl32, floorShr_eq_fdiv, scaleUp_eq_mul_two_pow, mulHigh_eq_fdiv]
    rfl
  | _ => simp [wordResult] at h

/-- A command that saturates to 16 bits completes with its exact result, clamped (R133, R134). -/
theorem exec_of_halfResult {n : Int} (h : halfResult s i = some (rd, n)) :
    exec i s = .next (s.answerClamped rd (sat16 n)) := by
  cases i with
  | sadd16 | ssub16 | sneg16 | smul15 =>
    obtain ⟨rfl, rfl⟩ := Prod.mk.inj (Option.some.inj h)
    simp only [exec, execSadd16, execSsub16, execSneg16, execSmul15, sext16_eq_toInt, floorShr_eq_fdiv]
    rfl
  | sat16 =>
    obtain ⟨rfl, rfl⟩ := Prod.mk.inj (Option.some.inj h)
    rfl
  | _ => simp [halfResult] at h

/-- A command that never clamps answers its result (R142, R143, R144, R149). -/
theorem exec_of_exactResult {v : Word} (h : exactResult s i = some (rd, v)) :
    exec i s = .next (s.answer rd v) := by
  cases i with
  | mulh =>
    obtain ⟨rfl, rfl⟩ := Prod.mk.inj (Option.some.inj h)
    simp only [exec, execMulh, w32_mulHigh]
    rfl
  | q15to31 =>
    obtain ⟨rfl, rfl⟩ := Prod.mk.inj (Option.some.inj h)
    rw [← lowHalf_eq_extractLsb', ← q15ToQ31_eq_append]
    rfl
  | q31to15 =>
    obtain ⟨rfl, rfl⟩ := Prod.mk.inj (Option.some.inj h)
    rw [← sshiftRight_sixteen, ← w32_floorShr]
    rfl
  | asr32 =>
    obtain ⟨rfl, rfl⟩ := Prod.mk.inj (Option.some.inj h)
    rw [← w32_floorShr]
    rfl
  | _ => simp [exactResult] at h

end Commands

/-! ### Clamping -/

section Clamping

variable {lo hi n : Int}

theorem clampTo_of_mem (hlo : lo ≤ n) (hhi : n ≤ hi) : clampTo lo hi n = (n, false) := by
  simp [clampTo, hlo, hhi]

theorem clampTo_of_above (h : hi < n) : clampTo lo hi n = (hi, true) := by
  simp [clampTo, h, h.le]

theorem clampTo_of_below (hle : lo ≤ hi) (h : n < lo) : clampTo lo hi n = (lo, true) := by
  simp [clampTo, h, h.le, hle]

end Clamping

/-! ### The completion of an arithmetic command -/

theorem State.port_withEsr (s : State) (e : Esr) (p : Port) : ({ s with esr := e } : State).port p = s.port p := rfl

/-- Everything an arithmetic completion does to the ports (R130). -/
theorem State.port_answerClamped (s : State) (rd : Reg) (r : Int × Bool) (p : Port) :
    (s.answerClamped rd r).port p =
      if p = s.issuer then
        { s.port s.issuer with
          x := (s.port s.issuer).x.set rd.val (w32 r.1)
          cp := (s.port s.issuer).cp + 1
          outstanding := none
          status := {
            cond := if r.2 then .overflowSaturated else .ok
            qf := (s.port s.issuer).status.qf || r.2 }
          resp := some { cond := if r.2 then .overflowSaturated else .ok, rdata := w32 r.1 } }
      else s.port p := by
  rcases s.answerClamped_cases rd r with ⟨hc, he⟩ | ⟨hc, he⟩
  · by_cases hp : p = s.issuer <;>
      simp [he, hc, State.saturate, State.port_respond, State.port_setReg, State.port_raiseQf, State.port_withEsr, hp]
  · by_cases hp : p = s.issuer <;>
      simp [he, hc, State.answer, State.okay, State.port_respond, State.port_setReg, hp]

/-- `ESR.SAT` records a clamp (R243). -/
theorem State.answerClamped_esr (s : State) (rd : Reg) (r : Int × Bool) :
    (s.answerClamped rd r).esr = { s.esr with sat := s.esr.sat || r.2 } := by
  rcases s.answerClamped_cases rd r with ⟨hc, he⟩ | ⟨hc, he⟩
  · simp [he, hc, State.saturate]
  · simp [he, hc, State.answer, State.okay]

theorem State.answerClamped_inputs (s : State) (rd : Reg) (r : Int × Bool) :
    (s.answerClamped rd r).issuer = s.issuer ∧ (s.answerClamped rd r).sched = s.sched := by
  rcases s.answerClamped_cases rd r with ⟨-, he⟩ | ⟨-, he⟩ <;> rw [he] <;> exact ⟨rfl, rfl⟩

theorem State.reg_answerClamped (s : State) (rd : Reg) (r : Int × Bool) (r' : Reg) :
    (s.answerClamped rd r).reg s.issuer r' = if r' = rd then w32 r.1 else s.reg s.issuer r' := by
  have hreg := s.reg_setReg s.issuer rd (w32 r.1) s.issuer r'
  rw [State.reg, State.port_setReg, if_pos rfl] at hreg
  rw [State.reg, State.port_answerClamped, if_pos rfl]
  simpa using hreg

theorem State.qf_answerClamped (s : State) (rd : Reg) (r : Int × Bool) :
    ((s.answerClamped rd r).port s.issuer).status.qf = ((s.port s.issuer).status.qf || r.2) := by
  rw [State.port_answerClamped, if_pos rfl]

theorem responded_answerClamped (s : State) (rd : Reg) (r : Int × Bool) :
    Responded s.issuer (if r.2 then .overflowSaturated else .ok) (w32 r.1) s (s.answerClamped rd r) := by
  rw [Responded, State.port_answerClamped, if_pos rfl]
  exact ⟨rfl, rfl, rfl, rfl⟩

/-- Of what is shared and of the other ports, an arithmetic completion changes `ESR` alone. -/
theorem kept_answerClamped (s : State) (rd : Reg) (r : Int × Bool) :
    Kept s.issuer [.esr] s (s.answerClamped rd r) := by
  refine ⟨?_, fun p hp => (s.port_answerClamped rd r p).trans (if_neg hp), ?_, s.answerClamped_inputs rd r⟩
  · rcases s.answerClamped_cases rd r with ⟨-, he⟩ | ⟨-, he⟩ <;> rw [he]
    · have hports {u : State} {p : Port} {ps : PortState} : SharedKept [.esr] u (u.setPort p ps) :=
        (SharedKept.setPort p ps).mono (by simp)
      exact (((SharedKept.withEsr s _).trans hports).trans hports).trans hports
    · exact (SharedKept.answer rd _).mono (by simp)
  · rw [State.port_answerClamped, if_pos rfl]

/-- A clamp to bounds that are words gives the exact result or the nearer bound, and reports which (R130, R243). -/
theorem saturates_answerClamped (s : State) (rd : Reg) {lo hi : Int} (n : Int) (hlo : -2147483648 ≤ lo)
    (hle : lo ≤ hi) (hhi : hi ≤ 2147483647) :
    Saturates lo hi (w32 lo) (w32 hi) rd n s (s.answerClamped rd (clampTo lo hi n)) := by
  have hresp := responded_answerClamped s rd (clampTo lo hi n)
  refine ⟨fun h h' => ?_, fun h => ?_, fun h => ?_⟩
  · rw [clampTo_of_mem h h'] at hresp ⊢
    rw [State.reg_answerClamped, if_pos rfl, QfKept, State.qf_answerClamped, State.answerClamped_esr]
    exact ⟨s32_w32 n (hlo.trans h) (h'.trans hhi), hresp, Bool.or_false _, Bool.or_false _⟩
  · rw [clampTo_of_above h] at hresp ⊢
    rw [State.reg_answerClamped, if_pos rfl, State.qf_answerClamped, State.answerClamped_esr]
    exact ⟨rfl, hresp, Bool.or_true _, Bool.or_true _⟩
  · rw [clampTo_of_below hle h] at hresp ⊢
    rw [State.reg_answerClamped, if_pos rfl, State.qf_answerClamped, State.answerClamped_esr]
    exact ⟨rfl, hresp, Bool.or_true _, Bool.or_true _⟩

/-- What a command that completes with a clamped result does: it saturates, and keeps all else. -/
theorem saturates_of_exec {s : State} {i : Instr} {rd : Reg} {lo hi n : Int} (hlo : -2147483648 ≤ lo)
    (hle : lo ≤ hi) (hhi : hi ≤ 2147483647) (he : exec i s = .next (s.answerClamped rd (clampTo lo hi n))) :
    ∃ t, exec i s = .next t ∧ Saturates lo hi (w32 lo) (w32 hi) rd n s t ∧
      RegsKeptBut s.issuer rd s t ∧ t.esr.res = s.esr.res ∧ t.esr.inv = s.esr.inv ∧ Kept s.issuer [.esr] s t := by
  refine ⟨_, he, saturates_answerClamped s rd n hlo hle hhi, fun r hr => ?_, ?_, ?_, kept_answerClamped s rd _⟩
  · rw [State.reg_answerClamped, if_neg hr]
  · rw [State.answerClamped_esr]
  · rw [State.answerClamped_esr]

end Sys2Proof.Machine

namespace Sys2Proof.Proofs

open Sys2Proof Sys2Proof.Machine Sys2Proof.Claims

/-- Settles O17: each command completes with its exact result, clamped to the range of a word. -/
theorem wordArithmeticSaturates : Obligations.WordArithmeticSaturates := by
  unfold Obligations.WordArithmeticSaturates
  intro i s rd n h
  exact saturates_of_exec (by decide) (by decide) (by decide) (exec_of_wordResult h)

/-- Settles O18: each command completes with its exact result, clamped to the range of a half. -/
theorem halfArithmeticSaturates : Obligations.HalfArithmeticSaturates := by
  unfold Obligations.HalfArithmeticSaturates
  intro i s rd n h
  exact saturates_of_exec (by decide) (by decide) (by decide) (exec_of_halfResult h)

/-- Settles O19: each command answers its word and has no other effect. -/
theorem conversionsAndShiftsAreExact : Obligations.ConversionsAndShiftsAreExact := by
  unfold Obligations.ConversionsAndShiftsAreExact
  intro i s rd v h
  exact ⟨_, answersWith_answer (exec_of_exactResult h) (.refl s) (.refl s)⟩

end Sys2Proof.Proofs
end

section
/-! PROOFS. A stage of the cascade worked with MULHS and SADD32 (R135): commands one after the other, and the partial
sum they keep in a register. -/

namespace Sys2Proof.Machine

open Sys2Proof Sys2Proof.Claims

/-! ### Commands one after the other -/

theorem execAll_cons {i : Instr} {l : List Instr} {s t : State} (h : exec i s = .next t) :
    execAll (i :: l) s = execAll l t := by
  rw [execAll, h]

theorem execAll_append {l l' : List Instr} {s t : State} (h : execAll l s = some t) :
    execAll (l ++ l') s = execAll l' t := by
  induction l generalizing s with
  | nil =>
    obtain rfl : s = t := Option.some.inj h
    rfl
  | cons i l ih =>
    cases hi : exec i s with
    | next u =>
      rw [execAll_cons hi] at h
      rw [List.cons_append, execAll_cons hi, ih h]
    | fault | refused => simp [execAll, hi] at h

/-! ### The partial sum -/

theorem isQ31_sat32 (n : Int) : isQ31 (sat32 n).1 := by
  obtain ⟨hlo, hhi, -, -⟩ := clampTo_spec (-2147483648) 2147483647 n (by decide)
  exact ⟨hlo, hhi⟩

/-- The issuing port `p` has worked with registers 13 and 14 alone, the others being as in `x`; register 13 holds the
partial sum `acc.1`, and `QF` says whether a step to it has clamped (R193). -/
structure HoldsSum (p : Port) (x : Reg → Word) (acc : Int × Bool) (t : State) : Prop where
  issuer : t.issuer = p
  sum : t.reg p 13 = w32 acc.1
  inRange : isQ31 acc.1
  clamped : (t.port p).status.qf = acc.2
  others : ∀ r : Reg, r ≠ 13 → r ≠ 14 → t.reg p r = x r

/-- The commands that add the term of coefficient register `o.1` and value register `o.2`. -/
def addTermCommands (sh : Nat) (o : Reg × Reg) : List Instr := [.mulhs 14 o.1 o.2 sh, .sadd32 13 13 14]

/-- The term of coefficient register `o.1` and value register `o.2`. -/
def termOf (x : Reg → Word) (o : Reg × Reg) : Int := mulHigh (x o.1) (x o.2)

/-- The registers that hold operands of a term are not those the sum is worked in. -/
def Operands (o : Reg × Reg) : Prop := (o.1 ≠ 13 ∧ o.1 ≠ 14) ∧ (o.2 ≠ 13 ∧ o.2 ≠ 14)

/-- The first MULHS starts the sum. -/
theorem holdsSum_mulhs {s : State} (hqf : (s.port s.issuer).status.qf = false) (o : Reg × Reg) (sh : Nat) :
    ∃ t, exec (.mulhs 13 o.1 o.2 sh) s = .next t ∧
      HoldsSum s.issuer (s.reg s.issuer) (sat32 (scaleUp (termOf (s.reg s.issuer) o) sh)) t := by
  refine ⟨_, rfl, (s.answerClamped_inputs _ _).1, ?_, isQ31_sat32 _, ?_, fun r h13 _ => ?_⟩
  · exact (s.reg_answerClamped _ _ _).trans (if_pos rfl)
  · rw [s.qf_answerClamped, hqf]
    exact Bool.false_or _
  · exact (s.reg_answerClamped _ _ _).trans (if_neg h13)

/-- MULHS and SADD32 take the sum one term further, as the STEPWISE engine does (R193): SADD32 reads back the exact
partial sum and the exact shifted term, since both have been clamped to words. -/
theorem HoldsSum.withTerm {p : Port} {x : Reg → Word} {acc : Int × Bool} {t : State} (h : HoldsSum p x acc t)
    (sh : Nat) {o : Reg × Reg} (ho : Operands o) :
    ∃ u, execAll (addTermCommands sh o) t = some u ∧ HoldsSum p x (addTerm sh acc (termOf x o)) u := by
  obtain ⟨rfl, hsum, hrange, hqf, hothers⟩ := h
  obtain ⟨⟨h1, h1'⟩, h2, h2'⟩ := ho
  set m := sat32 (scaleUp (termOf x o) sh) with hm
  set a := sat32 (acc.1 + m.1) with ha
  set v := t.answerClamped 14 m with hv
  have hmulhs : exec (.mulhs 14 o.1 o.2 sh) t = .next v := by
    rw [hv, hm, termOf, ← hothers o.1 h1 h1', ← hothers o.2 h2 h2']
    rfl
  have hissuer : v.issuer = t.issuer := (t.answerClamped_inputs 14 m).1
  have hreg (r : Reg) : v.reg v.issuer r = if r = 14 then w32 m.1 else t.reg t.issuer r := by
    rw [hissuer, hv, State.reg_answerClamped]
  have hsadd : exec (.sadd32 13 13 14) v = .next (v.answerClamped 13 a) := by
    have hacc : s32 (v.reg v.issuer 13) = acc.1 := by
      rw [hreg, if_neg (by decide), hsum, s32_w32 _ hrange.1 hrange.2]
    have hterm : s32 (v.reg v.issuer 14) = m.1 := by
      rw [hreg, if_pos rfl, s32_w32 _ (isQ31_sat32 _).1 (isQ31_sat32 _).2]
    rw [ha, ← hacc, ← hterm]
    rfl
  refine ⟨v.answerClamped 13 a, ?_, ?_⟩
  · rw [addTermCommands, execAll_cons hmulhs, execAll_cons hsadd, execAll]
  · rw [← hissuer]
    refine ⟨(v.answerClamped_inputs 13 a).1, ?_, isQ31_sat32 _, ?_, fun r h13 h14 => ?_⟩
    · exact (v.reg_answerClamped 13 a 13).trans (if_pos rfl)
    · rw [State.qf_answerClamped, hissuer, hv, State.qf_answerClamped, hqf]
      rfl
    · rw [State.reg_answerClamped, if_neg h13, hreg, if_neg h14, hothers r h13 h14]

/-- Every further term, in order. -/
theorem HoldsSum.withTerms {p : Port} {x : Reg → Word} (sh : Nat) {os : List (Reg × Reg)} {acc : Int × Bool}
    {t : State} (h : HoldsSum p x acc t) (hos : ∀ o ∈ os, Operands o) :
    ∃ u, execAll (os.flatMap (addTermCommands sh)) t = some u ∧
      HoldsSum p x ((os.map (termOf x)).foldl (addTerm sh) acc) u := by
  induction os generalizing acc t with
  | nil => exact ⟨t, rfl, h⟩
  | cons o os ih =>
    obtain ⟨v, hv, hsum⟩ := h.withTerm sh (hos o List.mem_cons_self)
    obtain ⟨u, hu, hsum'⟩ := ih hsum fun o' ho' => hos o' (List.mem_cons_of_mem _ ho')
    exact ⟨u, by rw [List.flatMap_cons, execAll_append hv, hu], hsum'⟩

end Sys2Proof.Machine

namespace Sys2Proof.Proofs

open Sys2Proof Sys2Proof.Machine Sys2Proof.Claims

/-- Settles O13: MULHS starts the sum with the term of `b0`, and the other four terms are added in order, as the
STEPWISE engine adds them. -/
theorem stageByHandEqualsTheStepwiseEngine : Obligations.StageByHandEqualsTheStepwiseEngine := by
  unfold Obligations.StageByHandEqualsTheStepwiseEngine
  intro s c d x hmode hb0 hb1 hb2 ha1 ha2 hx hx1 hx2 hy1 hy2 hqf
  obtain ⟨v, hv, hfirst⟩ := holdsSum_mulhs hqf (2, 12) s.cfg.postShift
  obtain ⟨t, ht, hall⟩ := hfirst.withTerms s.cfg.postShift (os := [(3, 8), (4, 9), (5, 10), (6, 11)])
    (by simp [Operands])
  have hsum : ([(3, 8), (4, 9), (5, 10), (6, 11)].map (termOf (s.reg s.issuer))).foldl (addTerm s.cfg.postShift)
      (sat32 (scaleUp (termOf (s.reg s.issuer) (2, 12)) s.cfg.postShift)) =
      bqsum s.cfg.accMode s.cfg.postShift (mulHigh c.b0 x) (mulHigh c.b1 d.x1) (mulHigh c.b2 d.x2)
        (mulHigh c.a1 d.y1) (mulHigh c.a2 d.y2) := by
    rw [hmode, ← hb0, ← hb1, ← hb2, ← ha1, ← ha2, ← hx, ← hx1, ← hx2, ← hy1, ← hy2]
    rfl
  rw [hsum] at hall
  exact ⟨t, (execAll_cons hv).trans ht, hall.sum, hall.clamped⟩

end Sys2Proof.Proofs
end

section
/-! PROOFS. The pool commands (R161 to R169, R179): the effects of each once its checks pass, and what those effects
leave as it was. -/

namespace Sys2Proof.Machine

open Sys2Proof Sys2Proof.Claims

variable {s u t : State}

/-! ### Evaluation -/

/-- A command whose checks pass and that need not wait takes effect (R12). -/
theorem State.evaluate_effects {checks : List (SubCause × Bool)} {hold : Bool} (hc : firstFailed checks = none)
    (hh : hold = false) : s.evaluate checks hold u = .next u := by
  simp [State.evaluate, hc, hh]

theorem State.fenced_of_empty {q : CorePort} (hw : s.wb q = []) : s.fenced q.port = true := by
  simp [s.fenced_port, hw]

theorem State.idx_eq_idx (s : State) (r : Reg) : s.idx r = Claims.idx s r := rfl

/-! ### What the effects leave -/

/-- A change of shared pieces keeps the ports and the model's inputs. -/
theorem PortsKept.of_fields (hp : u.port = s.port := by rfl) (hi : u.issuer = s.issuer := by rfl)
    (hs : u.sched = s.sched := by rfl) : PortsKept s u :=
  ⟨fun _ => by rw [hp], hi, hs⟩

/-- Of the shared pieces, a change of one buffer's ownership changes the ownerships alone. -/
theorem SharedKept.setOwn (s : State) (b : Nat) (o : Own) : SharedKept [.own] s (s.setOwn b o) :=
  ⟨fun x hx => by cases x <;> simp_all [Part.kept, State.coefAt, State.stAt], rfl⟩

/-- Of the shared pieces, a change of one buffer's count changes the counts alone. -/
theorem SharedKept.setCnt (s : State) (b n : Nat) : SharedKept [.cnt] s (s.setCnt b n) :=
  ⟨fun x hx => by cases x <;> simp_all [Part.kept, State.coefAt, State.stAt], rfl⟩

theorem SharedKept.withFreeq (s : State) (l : List Nat) : SharedKept [.freeq] s { s with freeq := l } := by
  refine ⟨fun x hx => ?_, rfl⟩
  cases x with
  | freeq => exact absurd (List.mem_singleton.mpr rfl) hx
  | _ => simp only [Part.kept] <;> intros <;> rfl

theorem SharedKept.withOutq (s : State) (l : List Nat) : SharedKept [.outq] s { s with outq := l } := by
  refine ⟨fun x hx => ?_, rfl⟩
  cases x with
  | outq => exact absurd (List.mem_singleton.mpr rfl) hx
  | _ => simp only [Part.kept] <;> intros <;> rfl

/-- Two changes, one after the other, change the pieces of both. -/
theorem SharedKept.append {l l' : List Part} (h : SharedKept l s u) (h' : SharedKept l' u t) :
    SharedKept (l ++ l') s t :=
  (h.mono fun _ => List.mem_append_left l').trans (h'.mono fun _ => List.mem_append_right l)

theorem SharedKept.withFreeq_setOwn (s : State) (l : List Nat) (b : Nat) (o : Own) :
    SharedKept [.freeq, .own] s (({ s with freeq := l } : State).setOwn b o) :=
  (SharedKept.withFreeq s l).append (.setOwn _ b o)

theorem SharedKept.withOutq_setOwn (s : State) (l : List Nat) (b : Nat) (o : Own) :
    SharedKept [.outq, .own] s (({ s with outq := l } : State).setOwn b o) :=
  (SharedKept.withOutq s l).append (.setOwn _ b o)

/-- Of the shared pieces, taking a buffer changes the free list, the ownerships and the counts (R161). -/
theorem SharedKept.acquire (s : State) (b : Nat) (rest : List Nat) :
    SharedKept [.freeq, .own, .cnt] s (s.acquire b rest) :=
  (SharedKept.withFreeq_setOwn s rest b .prod).append (.setCnt _ b 0)

/-- Of the shared pieces, FLUSH changes those it restores (R179). -/
theorem SharedKept.flushed (s : State) :
    SharedKept [.own, .cnt, .freeq, .outq, .bar, .jobBuf, .filter] s s.flushed := by
  refine ⟨fun x hx => ?_, rfl⟩
  cases x with
  | own | cnt | freeq | outq | bar | jobBuf | filter => simp at hx
  | _ => simp only [Part.kept]; intros; rfl

/-- A buffer's new ownership is its own and no other's. -/
theorem State.ownOf_setOwn_only (s : State) (b : Nat) (o : Own) :
    (s.setOwn b o).ownOf b = o ∧ ∀ b', b' ≠ b → (s.setOwn b o).ownOf b' = s.ownOf b' :=
  ⟨by simp, fun b' hb => by simp [hb]⟩

/-- A buffer's new count is its own and no other's. -/
theorem State.cntOf_setCnt_only (s : State) (b n : Nat) :
    (s.setCnt b n).cntOf b = n ∧ ∀ b', b' ≠ b → (s.setCnt b n).cntOf b' = s.cntOf b' :=
  ⟨by simp, fun b' hb => by simp [hb]⟩

/-! ### The commands -/

section Commands

variable {rd ra rb : Reg} {b : Nat} {rest : List Nat}

/-- With a buffer free, TAKE and TAKEB have the same effects (R161, R162). -/
theorem exec_take_or_takeb {i : Instr} (hi : i = .take rd ∨ i = .takeb rd) (hp : s.issuer = .a)
    (hq : s.freeq = b :: rest) : exec i s = .next ((s.acquire b rest).answer rd (wordOfNat b)) := by
  rcases hi with rfl | rfl
  · simp [exec, execTake, hq, hp, State.evaluate_effects]
  · simp [exec, execTakeb, hq, hp, State.evaluate_effects]

theorem exec_give (hp : s.issuer = .a) (hb : idx s ra < s.cfg.nbuf) (ho : s.ownOf (idx s ra) = .prod)
    (hw : s.wb .a = []) :
    exec (.give ra) s = .next ((({ s with outq := s.outq ++ [idx s ra] } : State).setOwn
      (idx s ra) .queued).okay 0) := by
  have hfence : s.fenced s.issuer = true := hp ▸ State.fenced_of_empty hw
  exact State.evaluate_effects (by simp [hp, State.idx_eq_idx, hb, ho]) (by simp [hfence])

theorem exec_ctake (hp : s.issuer = .c) (hq : s.outq = b :: rest) :
    exec (.ctake rd) s = .next ((({ s with outq := rest } : State).setOwn b .cons).answer rd (wordOfNat b)) := by
  simp [exec, execCtake, hq, hp, State.evaluate_effects]

theorem exec_cgive (hp : s.issuer = .c) (hb : idx s ra < s.cfg.nbuf) (ho : s.ownOf (idx s ra) = .cons) :
    exec (.cgive ra) s = .next ((({ s with freeq := s.freeq ++ [idx s ra] } : State).setOwn
      (idx s ra) .free).okay 0) :=
  State.evaluate_effects (by simp [hp, State.idx_eq_idx, hb, ho]) rfl

theorem exec_setcnt (hp : s.issuer = .a) (hb : idx s ra < s.cfg.nbuf) (hn : idx s rb ≤ s.cfg.cap)
    (ho : s.ownOf (idx s ra) = .prod ∨ s.ownOf (idx s ra) = .split) :
    exec (.setcnt ra rb) s = .next ((s.setCnt (idx s ra) (idx s rb)).okay 0) :=
  State.evaluate_effects (by simp [hp, State.idx_eq_idx, hb, hn, ho]) rfl

theorem exec_getcnt (hb : idx s ra < s.cfg.nbuf) :
    exec (.getcnt rd ra) s = .next (s.answer rd (wordOfNat (s.cntOf (idx s ra)))) :=
  State.evaluate_effects (by simp [State.idx_eq_idx, hb]) rfl

theorem exec_flush (hp : s.issuer = .a) (he : s.engine .b = .idle) (ha : s.wb .a = []) (hb : s.wb .b = []) :
    exec .flush s = .next (s.flushed.okay 0) := by
  have hfenceA : s.fenced .a = true := State.fenced_of_empty ha
  have hfenceB : s.fenced .b = true := State.fenced_of_empty hb
  exact State.evaluate_effects (by simp [hp, he]) (by simp [hfenceA, hfenceB])

end Commands

end Sys2Proof.Machine

namespace Sys2Proof.Proofs

open Sys2Proof Sys2Proof.Machine Sys2Proof.Claims

/-- Settles O25: both commands take the head, which gets the count 0 after it gets its owner. -/
theorem takeHandsOutTheHead : Obligations.TakeHandsOutTheHead := by
  unfold Obligations.TakeHandsOutTheHead
  intro i s rd b rest hi hp hq
  obtain ⟨hown, hother⟩ := State.ownOf_setOwn_only { s with freeq := rest } b .prod
  obtain ⟨hcnt, hrest⟩ := (({ s with freeq := rest } : State).setOwn b .prod).cntOf_setCnt_only b 0
  exact ⟨_, answersWith_answer (exec_take_or_takeb hi hp hq) .of_fields (.acquire s b rest), rfl, hown, hother, hcnt,
    hrest⟩

/-- Settles O27: the checks and the fence pass, and the effects are the queue's and the buffer's. -/
theorem giveQueuesTheBuffer : Obligations.GiveQueuesTheBuffer := by
  unfold Obligations.GiveQueuesTheBuffer
  intro s ra hp hb ho hw
  have hkept := (SharedKept.withOutq_setOwn s (s.outq ++ [idx s ra]) (idx s ra) .queued).mono (l' := [.own, .outq])
    (by simp)
  exact ⟨_, completesWith_okay (exec_give hp hb ho hw) .of_fields hkept, rfl,
    State.ownOf_setOwn_only { s with outq := s.outq ++ [idx s ra] } (idx s ra) .queued⟩

/-- Settles O28: the effects are the queue's and the buffer's. -/
theorem ctakeHandsOutTheHead : Obligations.CtakeHandsOutTheHead := by
  unfold Obligations.CtakeHandsOutTheHead
  intro s rd b rest hp hq
  exact ⟨_, answersWith_answer (exec_ctake hp hq) .of_fields (.withOutq_setOwn s rest b .cons), rfl,
    State.ownOf_setOwn_only { s with outq := rest } b .cons⟩

/-- Settles O29: the checks pass, and the effects are the free list's and the buffer's. -/
theorem cgiveFreesTheBuffer : Obligations.CgiveFreesTheBuffer := by
  unfold Obligations.CgiveFreesTheBuffer
  intro s ra hp hb ho
  have hkept := (SharedKept.withFreeq_setOwn s (s.freeq ++ [idx s ra]) (idx s ra) .free).mono (l' := [.own, .freeq])
    (by simp)
  exact ⟨_, completesWith_okay (exec_cgive hp hb ho) .of_fields hkept, rfl,
    State.ownOf_setOwn_only { s with freeq := s.freeq ++ [idx s ra] } (idx s ra) .free⟩

/-- Settles O30: SETCNT's one effect is the count, GETCNT has none besides its answer. -/
theorem countsAreSetAndRead : Obligations.CountsAreSetAndRead := by
  unfold Obligations.CountsAreSetAndRead
  refine ⟨fun s ra rb hp hb hn ho => ?_, fun s rd ra hb => ?_⟩
  · exact ⟨_, completesWith_okay (exec_setcnt hp hb hn ho) .of_fields (.setCnt s _ _), State.cntOf_setCnt_only _ _ _⟩
  · exact ⟨_, answersWith_answer (exec_getcnt hb) (.refl s) (.refl s)⟩

/-- Settles O34: the effects are the flush, whose tables list nothing; `irq_b` is low because the barrier is IDLE. -/
theorem flushRestoresPoolBarrierAndFilter : Obligations.FlushRestoresPoolBarrierAndFilter := by
  unfold Obligations.FlushRestoresPoolBarrierAndFilter
  intro s hp he ha hb
  exact ⟨_, completesWith_okay (exec_flush hp he ha hb) .of_fields (.flushed s), fun _ => ⟨rfl, rfl⟩, rfl, rfl, rfl,
    rfl, State.stAt_zeroFilter s, rfl⟩

end Sys2Proof.Proofs
end

section
/-! PROOFS. Stores (R170, R172, R70): the halves a store names, posted in order or written at once. -/

namespace Sys2Proof.Machine

open Sys2Proof Sys2Proof.Claims

variable {s : State} {q : CorePort} {i : Instr}

/-! ### Rights and ranges -/

theorem State.mayWrite_iff (s : State) (p : Port) (b : Nat) : s.mayWrite p b = true ↔ writeRight s p b := by
  cases p <;> simp [State.mayWrite, writeRight]

theorem State.mayRead_iff (s : State) (p : Port) (b : Nat) : s.mayRead p b = true ↔ readRight s p b := by
  cases p <;> simp [State.mayRead, State.mayWrite, readRight]

theorem smpInRange_iff {c : Params} {b i : Nat} : Params.smpInRange c b i = true ↔ b < c.nbuf ∧ i < 2 * c.cap :=
  decide_eq_true_iff

theorem frameInRange_iff {c : Params} {b f : Nat} : Params.frameInRange c b f = true ↔ b < c.nbuf ∧ f < c.cap :=
  decide_eq_true_iff

/-! ### The buffer of a core port -/

@[simp] theorem State.portPost_port (s : State) (q : CorePort) (es : List Posted) :
    s.portPost q.port es = s.post q es := by
  simp [State.portPost]

@[simp] theorem State.portPostHold_port (s : State) (q : CorePort) (m : Nat) :
    s.portPostHold q.port m = s.postHold q m := by
  simp [State.portPostHold]

/-- Entries that the buffer has room for are posted, without waiting (R70). -/
theorem State.post_of_room {m : Nat} (hr : roomFor s q m) : s.postHold q m = false ∧ Params.postable s.cfg m = true := by
  cases hd : s.cfg.wbDepth with
  | none => simp [State.postHold, Params.postable, hd]
  | some d =>
    have hroom := hr d hd
    have hm : m ≤ d := by omega
    simp [State.postHold, Params.postable, hd, hm, hroom]

/-- Entries that the buffer could never hold are not posted, and wait only for it to be empty (R70). -/
theorem State.post_of_empty {d m : Nat} (hd : s.cfg.wbDepth = some d) (hm : d < m) (hw : s.wb q = []) :
    s.postHold q m = false ∧ Params.postable s.cfg m = false := by
  simp [State.postHold, Params.postable, hd, hm, hw]

/-! ### The halves of a store -/

theorem highHalf_eq_extractLsb' (w : Word) : highHalf w = w.extractLsb' 16 16 :=
  BitVec.eq_of_toNat_eq (by simp [highHalf])

/-- The entries of a store command, in order. -/
def State.storeEntries (s : State) (i : Instr) : List Posted :=
  (storedHalves s i).map fun e => .smp e.1 e.2.1 e.2.2

theorem State.length_storeEntries (s : State) (i : Instr) :
    (s.storeEntries i).length = (storedHalves s i).length := List.length_map _

/-- A valid store that need not wait performs the writes of its halves (R170, R172). -/
theorem exec_store (hi : isStore i) (hq : s.issuer = q.port) (hv : valid s i)
    (hh : s.postHold q (storedHalves s i).length = false) :
    exec i s = .next ((s.post q (s.storeEntries i)).okay 0) := by
  obtain ⟨-, hrange, howner, -⟩ := hv
  have hcore : s.issuer.core.isSome = true := by simp [hq]
  rw [← State.portPostHold_port, ← hq] at hh
  rw [← State.portPost_port, ← hq]
  cases i with
  | sts rs ra rb =>
    rw [State.storeEntries, storedHalves, ← lowHalf_eq_extractLsb']
    have hr := smpInRange_iff.mpr hrange
    have ho := (s.mayWrite_iff _ _).mpr howner
    exact State.evaluate_effects (by simp [hcore, State.idx_eq_idx, hr, ho]) hh
  | stf rs ra rb =>
    rw [State.storeEntries, storedHalves, ← lowHalf_eq_extractLsb', ← highHalf_eq_extractLsb']
    have hr := frameInRange_iff.mpr hrange
    have ho := (s.mayWrite_iff _ _).mpr howner
    exact State.evaluate_effects (by simp [hcore, State.idx_eq_idx, hr, ho]) hh
  | _ => exact hi.elim

/-- A store names no cell twice. -/
theorem storedHalves_nodup (s : State) (i : Instr) :
    ((storedHalves s i).map fun e => (e.1, e.2.1)).Nodup := by
  cases i <;> simp [storedHalves]

/-! ### Halves written to memory -/

/-- Halves written in order, each at its buffer and sample index. -/
def State.writeHalves (s : State) (l : List (Nat × Nat × Half)) : State :=
  l.foldl (fun u e => u.setSmp e.1 e.2.1 e.2.2) s

theorem State.writeHalves_cons (s : State) (e : Nat × Nat × Half) (l : List (Nat × Nat × Half)) :
    s.writeHalves (e :: l) = (s.setSmp e.1 e.2.1 e.2.2).writeHalves l := rfl

theorem State.commit_storeEntries (s : State) (i : Instr) :
    (s.storeEntries i).foldl State.commitPosted s = s.writeHalves (storedHalves s i) := by
  simp [State.storeEntries, State.writeHalves, List.foldl_map]

/-- A cell that no half is written to reads as before. -/
theorem State.smpAt_writeHalves_of_ne {l : List (Nat × Nat × Half)} {b n : Nat}
    (hl : ∀ e ∈ l, (b, n) ≠ (e.1, e.2.1)) : (s.writeHalves l).smpAt b n = s.smpAt b n := by
  induction l generalizing s with
  | nil => rfl
  | cons e l ih =>
    obtain ⟨he, hl⟩ := List.forall_mem_cons.mp hl
    have hcell : ¬(b = e.1 ∧ n = e.2.1) := fun h => he (Prod.ext h.1 h.2)
    rw [State.writeHalves_cons, ih hl, State.smpAt_setSmp, if_neg hcell]

/-- Where no cell is named twice, each reads as its half. -/
theorem State.smpAt_writeHalves {l : List (Nat × Nat × Half)} (hl : (l.map fun e => (e.1, e.2.1)).Nodup)
    {e : Nat × Nat × Half} (he : e ∈ l) : (s.writeHalves l).smpAt e.1 e.2.1 = e.2.2 := by
  induction l generalizing s with
  | nil => cases he
  | cons e' l ih =>
    obtain ⟨hnew, hl⟩ := List.nodup_cons.mp hl
    rw [State.writeHalves_cons]
    rcases List.mem_cons.mp he with rfl | he
    · rw [State.smpAt_writeHalves_of_ne fun x hx h => hnew (List.mem_map.mpr ⟨x, hx, h.symm⟩)]
      simp
    · exact ih hl he

/-- Of the shared pieces, writing halves changes the samples alone. -/
theorem SharedKept.writeHalves (s : State) (l : List (Nat × Nat × Half)) :
    SharedKept [.samples] s (s.writeHalves l) := by
  induction l generalizing s with
  | nil => exact (SharedKept.refl s).mono (by simp)
  | cons e l ih => exact (SharedKept.setSmp s e.1 e.2.1 e.2.2).trans (ih _)

theorem PortsKept.writeHalves (s : State) (l : List (Nat × Nat × Half)) : PortsKept s (s.writeHalves l) := by
  induction l generalizing s with
  | nil => exact .refl s
  | cons e l ih => exact ih (s.setSmp e.1 e.2.1 e.2.2)

end Sys2Proof.Machine

namespace Sys2Proof.Proofs

open Sys2Proof Sys2Proof.Machine Sys2Proof.Claims

/-- Settles O31: with room, the store does not wait and its entries are appended. -/
theorem storesArePosted : Obligations.StoresArePosted := by
  unfold Obligations.StoresArePosted
  intro i s q hi hq hv hr
  obtain ⟨hhold, hpostable⟩ := State.post_of_room hr
  have hexec := exec_store hi hq hv hhold
  rw [State.post, State.length_storeEntries, if_pos hpostable] at hexec
  refine ⟨_, completesWith_okay hexec .of_fields (.setWb s q _), ?_, fun q' hq' => ?_⟩
  · exact (s.wb_setWb q _ q).trans (if_pos rfl)
  · exact (s.wb_setWb q _ q').trans (if_neg hq')

/-- Settles O32: entries the buffer could never hold are written at once, and a store names no cell twice. -/
theorem unpostableStoresAreDirect : Obligations.UnpostableStoresAreDirect := by
  unfold Obligations.UnpostableStoresAreDirect
  intro i s q d hi hq hv hd hm hw
  obtain ⟨hhold, hpostable⟩ := State.post_of_empty hd hm hw
  have hexec := exec_store hi hq hv hhold
  rw [State.post, State.length_storeEntries, if_neg (by simp [hpostable]), State.commit_storeEntries] at hexec
  exact ⟨_, completesWith_okay hexec (.writeHalves s _) (.writeHalves s _),
    fun e he => State.smpAt_writeHalves (storedHalves_nodup s i) he, fun b n h => State.smpAt_writeHalves_of_ne h⟩

end Sys2Proof.Proofs
end

section
/-! PROOFS. Loads (R171, R173): a read finds the youngest entry of the port's own buffer for its cell, else memory
(R73). -/

namespace Sys2Proof.Machine

open Sys2Proof Sys2Proof.Claims

variable {b i : Nat} {v : Half} {e : Posted} {l : List Posted}

/-! ### The youngest entry of a cell -/

/-- A younger entry for the cell hides an older one. -/
theorem youngestSmp_cons_of_some (e : Posted) (h : youngestSmp b i l = some v) :
    youngestSmp b i (e :: l) = some v := by
  simp [youngestSmp, h]

/-- An entry for the cell is seen where no younger one hides it. -/
theorem youngestSmp_cons_self (b i : Nat) (v : Half) (l : List Posted) :
    youngestSmp b i (.smp b i v :: l) = some ((youngestSmp b i l).getD v) := by
  cases h : youngestSmp b i l <;> simp [youngestSmp, h]

/-- An entry for another cell is not seen. -/
theorem youngestSmp_cons_of_ne (he : ∀ v, e ≠ .smp b i v) : youngestSmp b i (e :: l) = youngestSmp b i l := by
  cases hl : youngestSmp b i l with
  | some v => exact youngestSmp_cons_of_some e hl
  | none =>
    cases e with
    | coef k j v => simp [youngestSmp, hl]
    | smp b' i' v' =>
      have hcell : ¬(b' = b ∧ i' = i) := by
        rintro ⟨rfl, rfl⟩
        exact he v' rfl
      simp [youngestSmp, hl, hcell]

/-- Nothing is found exactly where no entry is for the cell. -/
theorem youngestSmp_eq_none_iff : youngestSmp b i l = none ↔ ∀ v, .smp b i v ∉ l := by
  induction l with
  | nil => simp [youngestSmp]
  | cons e l ih =>
    by_cases he : ∃ v, e = .smp b i v
    · obtain ⟨v, rfl⟩ := he
      exact iff_of_false (by simp [youngestSmp_cons_self]) fun h => h v List.mem_cons_self
    · rw [not_exists] at he
      simp [youngestSmp_cons_of_ne he, ih, Ne.symm (he _)]

/-- What is found is an entry for the cell that no younger one hides. -/
theorem youngestSmp_eq_some_iff : youngestSmp b i l = some v ↔
    ∃ older younger, l = older ++ [Posted.smp b i v] ++ younger ∧ ∀ v', Posted.smp b i v' ∉ younger := by
  constructor
  · intro h
    induction l with
    | nil => cases h
    | cons e l ih =>
      cases hl : youngestSmp b i l with
      | some v' =>
        obtain rfl : v' = v := Option.some.inj ((youngestSmp_cons_of_some e hl).symm.trans h)
        obtain ⟨older, younger, rfl, hy⟩ := ih hl
        exact ⟨e :: older, younger, rfl, hy⟩
      | none =>
        by_cases he : ∃ v, e = .smp b i v
        · obtain ⟨v', rfl⟩ := he
          obtain rfl : v' = v := by simpa [youngestSmp_cons_self, hl] using h
          exact ⟨[], l, rfl, youngestSmp_eq_none_iff.mp hl⟩
        · rw [not_exists] at he
          rw [youngestSmp_cons_of_ne he, hl] at h
          cases h
  · rintro ⟨older, younger, rfl, hy⟩
    induction older with
    | nil => simp [youngestSmp_cons_self, youngestSmp_eq_none_iff.mpr hy]
    | cons e older ih => exact youngestSmp_cons_of_some e ih

/-! ### What a port sees -/

theorem State.ownPosted_eq_posted (s : State) (p : Port) : s.ownPosted p = posted s p := by cases p <;> rfl

/-- The one half a port sees in a cell is the one its read returns (R73). -/
theorem seesSample_iff {s : State} {p : Port} : SeesSample s p b i v ↔ v = s.readSmp p b i := by
  rw [SeesSample, ← youngestSmp_eq_some_iff, ← youngestSmp_eq_none_iff, State.readSmp, State.ownPosted_eq_posted]
  cases youngestSmp b i (posted s p) <;> simp [eq_comm]

/-! ### The commands -/

section Commands

variable {s : State} {rd ra rb : Reg}

/-- LDS's word, `w32` of the half's value, is the half sign-extended (R171). -/
theorem exec_lds (hv : valid s (.lds rd ra rb)) :
    exec (.lds rd ra rb) s =
      .next (s.answer rd ((s.readSmp s.issuer (idx s ra) (idx s rb)).signExtend 32)) := by
  obtain ⟨-, hrange, howner, -⟩ := hv
  have hr := smpInRange_iff.mpr hrange
  have ho := (s.mayRead_iff _ _).mpr howner
  exact State.evaluate_effects (by simp [State.idx_eq_idx, hr, ho]) rfl

theorem exec_ldf (hv : valid s (.ldf rd ra rb)) :
    exec (.ldf rd ra rb) s =
      .next (s.answer rd (s.readSmp s.issuer (idx s ra) (2 * idx s rb + 1) ++
        s.readSmp s.issuer (idx s ra) (2 * idx s rb))) := by
  obtain ⟨-, hrange, howner, -⟩ := hv
  have hr := frameInRange_iff.mpr hrange
  have ho := (s.mayRead_iff _ _).mpr howner
  exact State.evaluate_effects (by simp [State.idx_eq_idx, hr, ho]) rfl

end Commands

end Sys2Proof.Machine

namespace Sys2Proof.Proofs

open Sys2Proof Sys2Proof.Machine Sys2Proof.Claims

/-- Settles O33: the half seen is the half read, and a load answers what it reads. -/
theorem loadsReturnWhatThePortSees : Obligations.LoadsReturnWhatThePortSees := by
  unfold Obligations.LoadsReturnWhatThePortSees
  refine ⟨fun s p b n => ⟨_, seesSample_iff.mpr rfl, fun _ => seesSample_iff.mp⟩, fun s rd ra rb hv => ?_,
    fun s rd ra rb hv => ?_⟩
  · exact ⟨_, _, seesSample_iff.mpr rfl, answersWith_answer (exec_lds hv) (.refl s) (.refl s)⟩
  · exact ⟨_, _, _, seesSample_iff.mpr rfl, seesSample_iff.mpr rfl,
      answersWith_answer (exec_ldf hv) (.refl s) (.refl s)⟩

end Sys2Proof.Proofs
end

section
/-! PROOFS. The stage function (R191, R193, R212): its exact sum, clamped once in WIDE mode, and exact in both modes
where nothing leaves the Q31 range. -/

namespace Sys2Proof.Machine

open Sys2Proof Sys2Proof.Claims

variable {cfg : Params} {c : Coefs} {d : Delay} {x : Word}

/-! ### The sum -/

theorem terms_eq (c : Coefs) (d : Delay) (x : Word) :
    terms c d x =
      [mulHigh c.b0 x, mulHigh c.b1 d.x1, mulHigh c.b2 d.x2, mulHigh c.a1 d.y1, mulHigh c.a2 d.y2] := by
  simp only [terms, mulHigh_eq_fdiv]

/-- What a stage clamps: the sum as its mode forms it (R193). -/
def stageSum (cfg : Params) (c : Coefs) (d : Delay) (x : Word) : Int × Bool :=
  bqsum cfg.accMode cfg.postShift (mulHigh c.b0 x) (mulHigh c.b1 d.x1) (mulHigh c.b2 d.x2) (mulHigh c.a1 d.y1)
    (mulHigh c.a2 d.y2)

theorem stage_eq (cfg : Params) (c : Coefs) (d : Delay) (x : Word) :
    stage cfg c d x =
      { y := w32 (stageSum cfg c d x).1
        delay := { x1 := x, x2 := d.x1, y1 := w32 (stageSum cfg c d x).1, y2 := d.y1 }
        clamped := (stageSum cfg c d x).2 } := rfl

/-- WIDE: one sum, one shift, one clamp (R193). -/
theorem stageSum_wide (hm : cfg.accMode = .wide) :
    stageSum cfg c d x = sat32 ((terms c d x).sum * 2 ^ cfg.postShift) := by
  rw [stageSum, hm, terms_eq]
  simp only [bqsum, scaleUp_eq_mul_two_pow, List.sum_cons, List.sum_nil, add_zero, add_assoc]

theorem sat32_of_isQ31 {n : Int} (h : isQ31 n) : sat32 n = (n, false) := clampTo_of_mem h.1 h.2

/-- A term added where neither the shifted term nor the new partial sum leaves the range (R193). -/
theorem addTerm_of_isQ31 {sh : Nat} {a t : Int} (ht : isQ31 (t * 2 ^ sh)) (ha : isQ31 ((a + t) * 2 ^ sh)) :
    addTerm sh (a * 2 ^ sh, false) t = ((a + t) * 2 ^ sh, false) := by
  rw [add_mul] at ha ⊢
  simp only [addTerm, scaleUp_eq_mul_two_pow, sat32_of_isQ31 ht, sat32_of_isQ31 ha, Bool.or_self]

/-- Terms added one by one where nothing leaves the range. -/
theorem foldl_addTerm_of_isQ31 {sh : Nat} {a : Int} {ts : List Int} (ht : ∀ t ∈ ts, isQ31 (t * 2 ^ sh))
    (ha : ∀ m ≤ ts.length, isQ31 ((a + (ts.take m).sum) * 2 ^ sh)) :
    ts.foldl (addTerm sh) (a * 2 ^ sh, false) = ((a + ts.sum) * 2 ^ sh, false) := by
  induction ts generalizing a with
  | nil => simp
  | cons t ts ih =>
    obtain ⟨ht, hts⟩ := List.forall_mem_cons.mp ht
    have hfirst : isQ31 ((a + t) * 2 ^ sh) := by simpa using ha 1 (by simp)
    rw [List.foldl_cons, addTerm_of_isQ31 ht hfirst, ih hts fun m hm => ?_, List.sum_cons, add_assoc]
    simpa [add_assoc] using ha (m + 1) (by simpa using hm)

/-- No shifted term and no shifted partial sum leaves the Q31 range (R193). -/
def NothingLeaves (sh : Nat) (ts : List Int) : Prop :=
  (∀ n, n ∈ ts → isQ31 (n * 2 ^ sh)) ∧ ∀ m, m ≤ 5 → isQ31 ((ts.take m).sum * 2 ^ sh)

/-- Where nothing leaves the range the sum is exact in both modes. -/
theorem stageSum_of_nothingLeaves (h : NothingLeaves cfg.postShift (terms c d x)) :
    stageSum cfg c d x = ((terms c d x).sum * 2 ^ cfg.postShift, false) := by
  obtain ⟨hterms, hsums⟩ := h
  cases hm : cfg.accMode with
  | wide =>
    rw [stageSum_wide hm]
    exact sat32_of_isQ31 (hsums 5 le_rfl)
  | stepwise =>
    rw [terms_eq] at hterms hsums ⊢
    obtain ⟨hfirst, hrest⟩ := List.forall_mem_cons.mp hterms
    rw [stageSum, hm, bqsum, scaleUp_eq_mul_two_pow, sat32_of_isQ31 hfirst, List.sum_cons]
    refine foldl_addTerm_of_isQ31 hrest fun m hm => ?_
    simpa using hsums (m + 1) (Nat.succ_le_succ hm)

/-! ### The identity band -/

theorem mulHigh_zero (x : Word) : mulHigh 0 x = 0 := by simp [mulHigh_eq_ediv]

theorem toInt_identity_b0 (hl : cfg.legal = true) : (Params.identity cfg).b0.toInt = 2 ^ cfg.coefFrac := by
  simp only [Params.legal, decide_eq_true_eq] at hl
  have hle : 2 ^ cfg.coefFrac ≤ 2 ^ 30 := Nat.pow_le_pow_right (by decide) (by omega)
  have hnat : (Params.identity cfg).b0.toNat = 2 ^ cfg.coefFrac := Nat.mod_eq_of_lt (by omega)
  rw [BitVec.toInt_eq_toNat_of_lt (by omega), hnat]
  norm_num

/-- The band's one term is the input without its low `POST_SHIFT` bits (R212). -/
theorem mulHigh_identity_b0 (hl : cfg.legal = true) (x : Word) :
    mulHigh (Params.identity cfg).b0 x = x.toInt / 2 ^ cfg.postShift := by
  have hsplit : (4294967296 : Int) = 2 ^ cfg.coefFrac * 2 ^ cfg.postShift := by
    simp only [Params.legal, decide_eq_true_eq] at hl
    rw [← pow_add, Params.postShift, Nat.add_sub_cancel' (by omega)]
    norm_num
  rw [mulHigh_eq_ediv, toInt_identity_b0 hl, hsplit, Int.mul_ediv_mul_of_pos _ _ (by positivity)]

theorem terms_identity (hl : cfg.legal = true) (d : Delay) (x : Word) :
    terms (Params.identity cfg) d x = [x.toInt / 2 ^ cfg.postShift, 0, 0, 0, 0] := by
  rw [terms_eq, mulHigh_identity_b0 hl]
  simp only [Params.identity, mulHigh_zero]

/-- Clearing low bits does not leave the range: its lower end has them clear. -/
theorem isQ31_clearLow {k : Nat} (hk : k ≤ 31) (x : Word) : isQ31 (x.toInt / 2 ^ k * 2 ^ k) := by
  have hlo := x.le_toInt
  have hhi := x.toInt_lt
  have hpos : (0 : Int) < 2 ^ k := by positivity
  obtain ⟨m, hm⟩ : (2 : Int) ^ k ∣ 2147483648 := by
    simpa using pow_dvd_pow (2 : Int) hk
  have hfloor : -m ≤ x.toInt / 2 ^ k := by
    rw [Int.le_ediv_iff_mul_le hpos, neg_mul, mul_comm, ← hm]
    simpa using hlo
  refine ⟨?_, ?_⟩
  · calc (-2147483648 : Int) = -m * 2 ^ k := by rw [hm]; ring
      _ ≤ x.toInt / 2 ^ k * 2 ^ k := Int.mul_le_mul_of_nonneg_right hfloor hpos.le
  · have hle := Int.ediv_mul_le x.toInt hpos.ne'
    omega

theorem nothingLeaves_identity (hl : cfg.legal = true) (d : Delay) (x : Word) :
    NothingLeaves cfg.postShift (terms (Params.identity cfg) d x) := by
  have hzero : isQ31 0 := ⟨by decide, by decide⟩
  have hterm : isQ31 (x.toInt / 2 ^ cfg.postShift * 2 ^ cfg.postShift) := by
    simp only [Params.legal, decide_eq_true_eq] at hl
    exact isQ31_clearLow (by rw [Params.postShift]; omega) x
  rw [terms_identity hl]
  refine ⟨?_, fun m _ => ?_⟩
  · simpa using ⟨hterm, hzero⟩
  · rcases m with _ | _ | _ | _ | _ | m <;> simpa

/-- A word whose low half is zero has its low `k` bits clear, for `k` up to 16. -/
theorem two_pow_dvd_toInt {k : Nat} (hk : k ≤ 16) (hx : x.extractLsb' 0 16 = 0) : (2 : Int) ^ k ∣ x.toInt := by
  have hlow : x.toNat % 65536 = 0 := by simpa using congrArg BitVec.toNat hx
  have h16 : (2 : Int) ^ 16 ∣ x.toInt := by
    rw [BitVec.toInt_eq_toNat_cond]
    norm_num
    split <;> omega
  exact (pow_dvd_pow 2 hk).trans h16

end Sys2Proof.Machine

namespace Sys2Proof.Proofs

open Sys2Proof Sys2Proof.Machine Sys2Proof.Claims

/-- Settles O11: the WIDE sum is clamped once, and the delay line is the stage's own. -/
theorem wideStageClampsTheExactSum : Obligations.WideStageClampsTheExactSum := by
  unfold Obligations.WideStageClampsTheExactSum
  intro cfg c d x hm
  rw [stage_eq, stageSum_wide hm, sat32]
  refine ⟨rfl, fun h => ?_, fun h => ?_, fun h => ?_⟩
  · rw [clampTo_of_mem h.1 h.2]
    exact ⟨s32_w32 _ h.1 h.2, rfl⟩
  · rw [clampTo_of_above h]
    exact ⟨rfl, rfl⟩
  · rw [clampTo_of_below (by decide) h]
    exact ⟨rfl, rfl⟩

/-- Settles O12: where nothing leaves the range each mode's sum is the exact one. -/
theorem modesAgreeWhenNothingLeavesTheRange : Obligations.ModesAgreeWhenNothingLeavesTheRange := by
  unfold Obligations.ModesAgreeWhenNothingLeavesTheRange
  intro cfg c d x hterms hsums
  have hsum (m : AccMode) : stageSum { cfg with accMode := m } c d x =
      ((terms c d x).sum * 2 ^ cfg.postShift, false) := stageSum_of_nothingLeaves ⟨hterms, hsums⟩
  simp only [stage_eq, hsum, and_self]

/-- Settles O14: the band's one term is the input without its low bits, which shifts back without leaving the range. -/
theorem identityBandClearsTheLowBits : Obligations.IdentityBandClearsTheLowBits := by
  unfold Obligations.IdentityBandClearsTheLowBits
  intro cfg d x hl
  have hnothing := nothingLeaves_identity hl d x
  have hsum := stageSum_of_nothingLeaves hnothing
  have hrange := hnothing.2 5 le_rfl
  rw [terms_identity hl] at hsum hrange
  simp only [List.sum_cons, List.sum_nil, List.take_succ_cons, List.take_nil, add_zero] at hsum hrange
  have hy : (stage cfg (Params.identity cfg) d x).y.toInt = x.toInt / 2 ^ cfg.postShift * 2 ^ cfg.postShift := by
    rw [stage_eq, hsum]
    exact s32_w32 _ hrange.1 hrange.2
  refine ⟨by rw [stage_eq, hsum], ?_, fun hk hx => ?_⟩
  · rw [hy, Int.fdiv_eq_ediv_of_nonneg _ (by positivity)]
  · rw [← BitVec.toInt_inj, hy, Int.ediv_mul_cancel (two_pow_dvd_toInt hk hx)]

end Sys2Proof.Proofs
end

section
/-! PROOFS. The stage step of an engine (R206, R208): what it writes, where it leaves its run, and what each accessor
reads after it. -/

namespace Sys2Proof.Machine

open Sys2Proof Sys2Proof.Claims

variable {s t u : State} {q q' : CorePort} {r r' : Run}

/-! ### Pieces that are kept -/

/-- The schedule is no shared piece. -/
theorem SharedKept.withScheds {l : List Part} (h : SharedKept l s t) (a b : List Agent) :
    SharedKept l { s with sched := a } { t with sched := b } := by
  refine ⟨fun x hx => ?_, h.2⟩
  have hkept := h.1 x hx
  cases x <;> exact hkept

theorem SharedKept.setDelay (s : State) (c : Fin 2) (k : Nat) (d : Delay) :
    SharedKept [.filter] s (s.setDelay c k d) :=
  ⟨fun x hx => by cases x <;> simp_all [Part.kept, State.coefAt], rfl⟩

theorem SharedKept.setLock (s : State) (c : Fin 2) (l : Option CorePort) : SharedKept [.locks] s (s.setLock c l) :=
  ⟨fun x hx => by cases x <;> simp_all [Part.kept, State.coefAt, State.stAt], rfl⟩

theorem SharedKept.setEngine (s : State) (q : CorePort) (e : Engine) :
    SharedKept [.engines] s (s.setEngine q e) :=
  ⟨fun x hx => by cases x <;> simp_all [Part.kept, State.coefAt, State.stAt], rfl⟩

theorem SharedKept.noteClamp (s : State) (clamped : Bool) :
    SharedKept [.satcnt, .esr] s (s.noteClamp clamped) := by
  cases clamped
  · exact (SharedKept.refl s).mono (by simp)
  · refine ⟨fun x hx => ?_, rfl⟩
    cases x with
    | satcnt | esr => simp at hx
    | _ => simp only [Part.kept]; intros; rfl

theorem SharedKept.finishRun (s : State) (q : CorePort) (c : Fin 2) (sat : Bool) :
    SharedKept [.locks, .engines] s (s.finishRun q c sat) := by
  have hports {v : State} {p : Port} {ps : PortState} : SharedKept [.locks, .engines] v (v.setPort p ps) :=
    (SharedKept.setPort p ps).mono (by simp)
  have hfree : SharedKept [.locks, .engines] s ((s.setLock c none).setEngine q .idle) :=
    (SharedKept.setLock s c none).append (.setEngine _ q .idle)
  cases sat
  · exact hfree.trans hports
  · exact (hfree.trans hports).trans hports

/-! ### The record of a clamp (R206) -/

theorem toNat_countEvent (n : Word) : (countEvent n).toNat = min (n.toNat + 1) 0xFFFFFFFF := by
  have hn := n.isLt
  unfold countEvent
  split
  · next h => simp [h]
  · next h =>
    have hne : n.toNat ≠ 4294967295 := fun h' => h (BitVec.eq_of_toNat_eq h')
    rw [BitVec.toNat_add_of_lt] <;> simp <;> omega

theorem State.noteClamp_esr (s : State) (clamped : Bool) :
    (s.noteClamp clamped).esr = { s.esr with sat := s.esr.sat || clamped } := by
  cases clamped <;> simp [State.noteClamp]

theorem State.noteClamp_satcnt (s : State) (clamped : Bool) :
    (s.noteClamp clamped).satcnt = if clamped then countEvent s.satcnt else s.satcnt := by
  cases clamped <;> rfl

@[simp] theorem State.delayAt_noteClamp (s : State) (clamped : Bool) (c : Fin 2) (k : Nat) :
    (s.noteClamp clamped).delayAt c k = s.delayAt c k := by cases clamped <;> rfl

@[simp] theorem State.smpAt_noteClamp (s : State) (clamped : Bool) (b i : Nat) :
    (s.noteClamp clamped).smpAt b i = s.smpAt b i := by cases clamped <;> rfl

@[simp] theorem State.coefsAt_noteClamp (s : State) (clamped : Bool) (k : Nat) :
    (s.noteClamp clamped).coefsAt k = s.coefsAt k := by cases clamped <;> rfl

/-! ### What a stage step computes and writes -/

theorem State.stageOut_eq_stageNow (s : State) (r : Run) : s.stageOut r = stageNow s r := by
  simp only [State.stageOut, stageNow, State.stageInput, stageIn, q15ToQ31_eq_append]

/-- The state with the memory writes of a stage step done: the delay line, the record of a clamp and, at the last
band, the sample. -/
def State.stageWrites (s : State) (r : Run) : State :=
  let t := (s.setDelay r.c r.k (stageNow s r).delay).noteClamp (stageNow s r).clamped
  if r.k + 1 < s.cfg.nband then t else t.setSmp r.b (2 * r.i + r.c.val) (q31ToQ15 (stageNow s r).y)

/-- The stage step is the last of its run: the last band of the last frame. -/
abbrev Run.IsLast (nband : Nat) (r : Run) : Prop := nband ≤ r.k + 1 ∧ r.n ≤ r.i + 1

/-- Some stage of the run has clamped, the next one included. -/
def State.satAfter (s : State) (r : Run) : Bool := r.sat || (stageNow s r).clamped

/-- Where a stage step that is not the last leaves its run (R206). -/
def State.runAfter (s : State) (r : Run) : Run :=
  if r.k + 1 < s.cfg.nband then { r with k := r.k + 1, v := (stageNow s r).y, sat := s.satAfter r }
  else { r with i := r.i + 1, k := 0, v := 0, sat := s.satAfter r }

/-- Where a stage step leaves its engine (R206, R208). -/
def State.engineAfter (s : State) (r : Run) : Engine :=
  if r.IsLast s.cfg.nband then .idle else .run (s.runAfter r)

theorem State.stageStep_of_not_last (h : ¬ r.IsLast s.cfg.nband) :
    s.stageStep q r = (s.stageWrites r).setEngine q (.run (s.runAfter r)) := by
  simp only [State.stageStep, State.stageWrites, State.runAfter, State.satAfter, State.stageOut_eq_stageNow]
  by_cases hk : r.k + 1 < s.cfg.nband
  · simp only [if_pos hk]
  · have hi : r.i + 1 < r.n := by rw [Run.IsLast] at h; omega
    simp only [if_neg hk, if_pos hi]

theorem State.stageStep_of_last (h : r.IsLast s.cfg.nband) :
    s.stageStep q r = (s.stageWrites r).finishRun q r.c (s.satAfter r) := by
  obtain ⟨hk, hi⟩ := h
  simp only [State.stageStep, State.stageWrites, State.satAfter, State.stageOut_eq_stageNow, if_neg hk.not_gt,
    if_neg hi.not_gt]

/-- What neither an engine record nor the end of a run touches reads after a stage step as after its writes. -/
theorem State.stageStep_reads {α : Type} (f : State → α) (hset : ∀ u q e, f (State.setEngine u q e) = f u)
    (hfin : ∀ u q c sat, f (State.finishRun u q c sat) = f u) (s : State) (q : CorePort) (r : Run) :
    f (s.stageStep q r) = f (s.stageWrites r) := by
  by_cases h : r.IsLast s.cfg.nband
  · rw [State.stageStep_of_last h, hfin]
  · rw [State.stageStep_of_not_last h, hset]

theorem SameRuns.stageWrites (s : State) (r : Run) : SameRuns s (s.stageWrites r) := by
  have hnote := ((SameRuns.refl s).setDelay r.c r.k (stageNow s r).delay).noteClamp (stageNow s r).clamped
  unfold State.stageWrites
  split
  · exact hnote
  · exact hnote.setSmp _ _ _

theorem SharedKept.stageWrites (s : State) (r : Run) :
    SharedKept [.samples, .filter, .satcnt, .esr] s (s.stageWrites r) := by
  have hnote : SharedKept [.samples, .filter, .satcnt, .esr] s
      ((s.setDelay r.c r.k (stageNow s r).delay).noteClamp (stageNow s r).clamped) :=
    ((SharedKept.setDelay s _ _ _).append (.noteClamp _ _)).mono (by simp)
  unfold State.stageWrites
  split
  · exact hnote
  · exact hnote.trans ((SharedKept.setSmp _ _ _ _).mono (by simp))

/-! ### What each accessor reads after a stage step -/

@[simp] theorem State.smpAt_finishRun (s : State) (q : CorePort) (c : Fin 2) (sat : Bool) (b i : Nat) :
    (s.finishRun q c sat).smpAt b i = s.smpAt b i := by cases sat <;> rfl

@[simp] theorem State.delayAt_finishRun (s : State) (q : CorePort) (c : Fin 2) (sat : Bool) (c' : Fin 2) (k : Nat) :
    (s.finishRun q c sat).delayAt c' k = s.delayAt c' k := by cases sat <;> rfl

@[simp] theorem State.coefsAt_finishRun (s : State) (q : CorePort) (c : Fin 2) (sat : Bool) (k : Nat) :
    (s.finishRun q c sat).coefsAt k = s.coefsAt k := by cases sat <;> rfl

@[simp] theorem State.finishRun_esr (s : State) (q : CorePort) (c : Fin 2) (sat : Bool) :
    (s.finishRun q c sat).esr = s.esr := by cases sat <;> rfl

@[simp] theorem State.finishRun_satcnt (s : State) (q : CorePort) (c : Fin 2) (sat : Bool) :
    (s.finishRun q c sat).satcnt = s.satcnt := by cases sat <;> rfl

theorem State.smpAt_stageStep (s : State) (q : CorePort) (r : Run) (b i : Nat) :
    (s.stageStep q r).smpAt b i =
      if s.cfg.nband ≤ r.k + 1 ∧ b = r.b ∧ i = 2 * r.i + r.c.val then q31ToQ15 (stageNow s r).y
      else s.smpAt b i := by
  rw [State.stageStep_reads (·.smpAt b i) (by simp) (by simp), State.stageWrites]
  by_cases hk : r.k + 1 < s.cfg.nband
  · simp [hk]
  · simp [hk, Nat.le_of_not_lt hk]

theorem State.delayAt_stageStep (s : State) (q : CorePort) (r : Run) (c : Fin 2) (k : Nat) :
    (s.stageStep q r).delayAt c k = if c = r.c ∧ k = r.k then (stageNow s r).delay else s.delayAt c k := by
  rw [State.stageStep_reads (·.delayAt c k) (by simp) (by simp), State.stageWrites]
  split <;> simp

@[simp] theorem State.coefsAt_stageStep (s : State) (q : CorePort) (r : Run) (k : Nat) :
    (s.stageStep q r).coefsAt k = s.coefsAt k := by
  rw [State.stageStep_reads (·.coefsAt k) (by simp) (by simp), State.stageWrites]
  split <;> simp

theorem State.esr_stageStep (s : State) (q : CorePort) (r : Run) :
    (s.stageStep q r).esr = { s.esr with sat := s.esr.sat || (stageNow s r).clamped } := by
  rw [State.stageStep_reads (·.esr) (by simp) (by simp), State.stageWrites]
  split <;> exact State.noteClamp_esr _ _

theorem State.satcnt_stageStep (s : State) (q : CorePort) (r : Run) :
    (s.stageStep q r).satcnt = if (stageNow s r).clamped then countEvent s.satcnt else s.satcnt := by
  rw [State.stageStep_reads (·.satcnt) (by simp) (by simp), State.stageWrites]
  split <;> exact State.noteClamp_satcnt _ _

theorem State.engine_stageStep_eq (s : State) (q : CorePort) (r : Run) (q' : CorePort) :
    (s.stageStep q r).engine q' = if q' = q then s.engineAfter r else s.engine q' := by
  have hkept := (SameRuns.stageWrites s r).engines q'
  by_cases h : r.IsLast s.cfg.nband
  · rw [State.stageStep_of_last h, State.engine_finishRun, hkept, State.engineAfter, if_pos h]
  · rw [State.stageStep_of_not_last h, State.engine_setEngine, hkept, State.engineAfter, if_neg h]

theorem State.lockOf_stageStep (s : State) (q : CorePort) (r : Run) (c : Fin 2) :
    (s.stageStep q r).lockOf c = if r.IsLast s.cfg.nband ∧ c = r.c then none else s.lockOf c := by
  have hkept := (SameRuns.stageWrites s r).locks c
  by_cases h : r.IsLast s.cfg.nband
  · rw [State.stageStep_of_last h, State.lockOf_finishRun, hkept]
    exact if_congr (and_iff_right h).symm rfl rfl
  · rw [State.stageStep_of_not_last h, if_neg fun h' => h h'.1]
    exact hkept

/-- A port whose BQRUN has completed; `sat` says whether a stage of the run has clamped (R208). -/
def PortState.ranWith (ps : PortState) (sat : Bool) : PortState :=
  { ps with
    status := { cond := if sat then .overflowSaturated else .ok, qf := ps.status.qf || sat }
    cp := ps.cp + 1
    outstanding := none
    resp := some { cond := if sat then .overflowSaturated else .ok, rdata := 0 } }

theorem State.port_finishRun_self (s : State) (q : CorePort) (c : Fin 2) (sat : Bool) :
    (s.finishRun q c sat).port q.port = (s.port q.port).ranWith sat := by
  cases sat <;> simp [State.finishRun, State.port_respond, State.port_raiseQf, PortState.ranWith]

theorem State.port_stageStep (s : State) (q : CorePort) (r : Run) (p : Port) :
    (s.stageStep q r).port p =
      if r.IsLast s.cfg.nband ∧ p = q.port then (s.port q.port).ranWith (s.satAfter r) else s.port p := by
  have hsame := SameRuns.stageWrites s r
  by_cases h : r.IsLast s.cfg.nband
  · rw [State.stageStep_of_last h]
    by_cases hp : p = q.port
    · rw [if_pos ⟨h, hp⟩, hp, State.port_finishRun_self, hsame.ports]
    · rw [if_neg fun h' => hp h'.2, State.port_finishRun _ _ _ _ hp, hsame.ports]
  · rw [State.stageStep_of_not_last h, if_neg fun h' => h h'.1]
    exact hsame.ports p

/-- What a completed BQRUN shows of its port (R208). -/
theorem completed_of_ranWith {p : Port} {sat : Bool} (h : t.port p = (s.port p).ranWith sat) :
    Responded p (if sat then .overflowSaturated else .ok) 0 s t ∧
      (t.port p).status.qf = ((s.port p).status.qf || sat) ∧ RegsKept p s t := by
  refine ⟨?_, ?_, fun x => ?_⟩
  · rw [Responded, h]
    exact ⟨rfl, rfl, rfl, rfl⟩
  · rw [h]
    rfl
  · rw [State.reg, h]
    rfl

theorem SharedKept.stageStep (s : State) (q : CorePort) (r : Run) :
    SharedKept [.samples, .filter, .satcnt, .esr, .locks, .engines] s (s.stageStep q r) := by
  by_cases h : r.IsLast s.cfg.nband
  · rw [State.stageStep_of_last h]
    exact (SharedKept.stageWrites s r).append (.finishRun _ q r.c _)
  · rw [State.stageStep_of_not_last h]
    exact ((SharedKept.stageWrites s r).append (.setEngine _ q _)).mono (by simp)

/-- Only the last stage step of a run frees its lock (R208). -/
theorem SharedKept.stageStep_of_not_last (h : ¬ r.IsLast s.cfg.nband) :
    SharedKept [.samples, .filter, .satcnt, .esr, .engines] s (s.stageStep q r) := by
  rw [State.stageStep_of_not_last h]
  exact (SharedKept.stageWrites s r).append (.setEngine _ q _)

theorem stageStepEffects (s : State) (q : CorePort) (r : Run) : StageStepEffects s (s.stageStep q r) r := by
  rw [StageStepEffects, State.esr_stageStep, State.satcnt_stageStep]
  refine ⟨?_, fun c k hck => ?_, rfl, rfl, Bool.or_eq_true_iff, ?_⟩
  · rw [State.delayAt_stageStep, if_pos ⟨rfl, rfl⟩]
  · rw [State.delayAt_stageStep, if_neg fun h => hck (Prod.ext h.1 h.2)]
  · have hlt := s.satcnt.isLt
    split
    · rw [toNat_countEvent]
    · omega

/-! ### The step of an engine -/

theorem runInRange_iff : Params.runInRange s.cfg r = true ↔ runOk s r := by
  simp only [Params.runInRange, Bool.and_eq_true, smpInRange_iff, decide_eq_true_eq, runOk, and_assoc]

theorem State.stageWrites_withSched (s : State) (r : Run) (l : List Agent) :
    ({ s with sched := l } : State).stageWrites r = { s.stageWrites r with sched := l } := by
  have hnow : stageNow { s with sched := l } r = stageNow s r := rfl
  unfold State.stageWrites
  rw [hnow]
  by_cases hk : r.k + 1 < s.cfg.nband <;> cases (stageNow s r).clamped <;> simp only [hk, if_true, if_false] <;> rfl

theorem State.finishRun_withSched (s : State) (q : CorePort) (c : Fin 2) (sat : Bool) (l : List Agent) :
    ({ s with sched := l } : State).finishRun q c sat = { s.finishRun q c sat with sched := l } := by
  cases sat <;> rfl

/-- The schedule plays no part in a stage step. -/
theorem State.stageStep_withSched (s : State) (q : CorePort) (r : Run) (l : List Agent) :
    ({ s with sched := l } : State).stageStep q r = { s.stageStep q r with sched := l } := by
  by_cases h : r.IsLast s.cfg.nband
  · rw [State.stageStep_of_last h, State.stageStep_of_last (s := { s with sched := l }) h,
      State.stageWrites_withSched]
    exact State.finishRun_withSched _ q r.c _ l
  · rw [State.stageStep_of_not_last h, State.stageStep_of_not_last (s := { s with sched := l }) h,
      State.stageWrites_withSched]
    rfl

/-- A scheduled engine whose run names cells that exist takes its stage step (R206). -/
theorem step_engine {rest : List Agent} (hl : s.cfg.legal = true) (hs : s.sched = .engine q :: rest)
    (hr : s.engine q = .run r) (hok : runOk s r) : step s = .next { s.stageStep q r with sched := rest } := by
  have hr' : ({ s with sched := rest } : State).engine q = .run r := hr
  rw [step_cons hl hs, State.agentStep, State.engineStep, hr', ← State.stageStep_withSched]
  exact if_pos (runInRange_iff.mpr hok)

theorem step_engine_withSched (hl : s.cfg.legal = true) (hr : s.engine q = .run r) (hok : runOk s r)
    (rest : List Agent) :
    step { s with sched := .engine q :: rest } = .next { s.stageStep q r with sched := rest } := by
  have hstep := step_engine (s := { s with sched := .engine q :: rest }) hl rfl hr hok
  rwa [State.stageStep_withSched] at hstep

end Sys2Proof.Machine

namespace Sys2Proof.Proofs

open Sys2Proof Sys2Proof.Machine Sys2Proof.Claims

/-- Settles O8: the step is a stage step that is not the last, and each piece is read after it. -/
theorem stageStepAdvancesTheRun : Obligations.StageStepAdvancesTheRun := by
  unfold Obligations.StageStepAdvancesTheRun
  intro s q rest r hl hs hr hok hmore
  have hlast : ¬ r.IsLast s.cfg.nband := by rw [Run.IsLast]; omega
  have hengine := (s.engine_stageStep_eq q r q).trans ((if_pos rfl).trans (if_neg hlast))
  refine ⟨_, step_engine hl hs hr hok, stageStepEffects s q r, fun hk => ⟨?_, fun b i => ?_⟩,
    fun hk => ⟨?_, ?_, fun b i hbi => ?_⟩, fun q' hq' => ?_, ?_, fun p => ?_, rfl⟩
  · exact hengine.trans (congrArg Engine.run (if_pos hk))
  · exact (s.smpAt_stageStep q r b i).trans (if_neg fun h => absurd hk h.1.not_gt)
  · exact hengine.trans (congrArg Engine.run (if_neg hk.not_gt))
  · exact ((s.smpAt_stageStep q r _ _).trans (if_pos ⟨hk, rfl, rfl⟩)).trans (highHalf_eq_extractLsb' _)
  · exact (s.smpAt_stageStep q r b i).trans (if_neg fun h => hbi (Prod.ext h.2.1 h.2.2))
  · exact (s.engine_stageStep_eq q r q').trans (if_neg hq')
  · exact ((SharedKept.stageStep_of_not_last hlast).withScheds s.sched rest).mono (by simp)
  · exact (s.port_stageStep q r p).trans (if_neg fun h => hlast h.1)

/-- Settles O9: the step is the last stage step of its run, and each piece is read after it; the port is the one whose
BQRUN completes. -/
theorem lastStageStepFinishesTheRun : Obligations.LastStageStepFinishesTheRun := by
  unfold Obligations.LastStageStepFinishesTheRun
  intro s q rest r hl hs hr hok hk hi
  have hlast : r.IsLast s.cfg.nband := ⟨hk, hi⟩
  have hport := (s.port_stageStep q r q.port).trans (if_pos ⟨hlast, rfl⟩)
  obtain ⟨hresp, hqf, hregs⟩ := completed_of_ranWith hport
  refine ⟨_, step_engine hl hs hr hok, stageStepEffects s q r, ?_, fun q' hq' => ?_, ?_, fun c hc => ?_, ?_,
    fun b i hbi => ?_, fun hsat => ?_, fun hsat => ?_, hregs, fun p hp => ?_, ?_, rfl⟩
  · exact (s.engine_stageStep_eq q r q).trans ((if_pos rfl).trans (if_pos hlast))
  · exact (s.engine_stageStep_eq q r q').trans (if_neg hq')
  · exact (s.lockOf_stageStep q r r.c).trans (if_pos ⟨hlast, rfl⟩)
  · exact (s.lockOf_stageStep q r c).trans (if_neg fun h => hc h.2)
  · exact ((s.smpAt_stageStep q r _ _).trans (if_pos ⟨hk, rfl, rfl⟩)).trans (highHalf_eq_extractLsb' _)
  · exact (s.smpAt_stageStep q r b i).trans (if_neg fun h => hbi (Prod.ext h.2.1 h.2.2))
  · have hsat' : s.satAfter r = true := hsat
    rw [hsat'] at hresp hqf
    exact ⟨hresp, hqf.trans (Bool.or_true _)⟩
  · have hsat' : s.satAfter r = false := hsat
    rw [hsat'] at hresp hqf
    exact ⟨hresp, hqf.trans (Bool.or_false _)⟩
  · exact (s.port_stageStep q r p).trans (if_neg fun h => hp h.2)
  · exact ((SharedKept.stageStep s q r).withScheds s.sched rest).mono (by simp)

end Sys2Proof.Proofs
end

section
/-! PROOFS. Stage steps one after the other: how many a run takes (R206), and that the two engines do not disturb each
other on different channels (R205, R209). -/

namespace Sys2Proof.Machine

open Sys2Proof Sys2Proof.Claims

variable {s t u : State} {q q' : CorePort} {r r' : Run}

/-- A run of the machine goes on from the state its first step leaves. -/
theorem run_succ_of_step {M : Host.Core} {a b : M.State} {m : Nat} (h : M.step a = .next b) :
    M.run (m + 1) a = M.run m b := by
  rw [Host.Core.run, h]

/-! ### The stage steps of a run -/

theorem Run.stagesLeft_pos {nband : Nat} (hi : r.i < r.n) (hk : r.k < nband) : 0 < r.stagesLeft nband := by
  have hmul : nband ≤ (r.n - r.i) * nband := Nat.le_mul_of_pos_left nband (by omega)
  rw [Run.stagesLeft]
  omega

/-- The last stage step is the one that is left when no other is. -/
theorem Run.stagesLeft_of_last {nband : Nat} (hi : r.i < r.n) (hk : r.k < nband) (h : r.IsLast nband) :
    r.stagesLeft nband = 1 := by
  obtain ⟨hk', hi'⟩ := h
  have hframe : r.n - r.i = 1 := by omega
  rw [Run.stagesLeft, hframe]
  omega

/-- A stage step that is not the last leaves one fewer. -/
theorem State.stagesLeft_runAfter (hi : r.i < r.n) (hk : r.k < s.cfg.nband) :
    (s.runAfter r).stagesLeft s.cfg.nband + 1 = r.stagesLeft s.cfg.nband := by
  obtain ⟨m, hm⟩ : ∃ m, r.n - r.i = m + 1 := ⟨r.n - r.i - 1, by omega⟩
  have hmul : (r.n - r.i) * s.cfg.nband = m * s.cfg.nband + s.cfg.nband := by rw [hm, Nat.succ_mul]
  unfold State.runAfter
  split
  · simp only [Run.stagesLeft, hmul]
    omega
  · have hm' : r.n - (r.i + 1) = m := by omega
    simp only [Run.stagesLeft, hmul, hm']
    omega

/-- The run is at a stage step of its block, and the cells of the block exist. -/
structure Run.Within (cfg : Params) (r : Run) : Prop where
  buffer : r.b < cfg.nbuf
  frame : r.i < r.n
  frames : r.n ≤ cfg.cap
  band : r.k < cfg.nband

theorem Run.Within.ok (h : r.Within s.cfg) : runOk s r := by
  have hc := r.c.isLt
  have hframe := h.frame
  have hframes := h.frames
  exact ⟨h.buffer, by omega, h.band⟩

theorem Run.Within.runAfter (h : r.Within s.cfg) (hlast : ¬ r.IsLast s.cfg.nband) :
    (s.runAfter r).Within s.cfg := by
  obtain ⟨hb, hi, hn, hk⟩ := h
  unfold State.runAfter
  split
  · next hk' => exact ⟨hb, hi, hn, hk'⟩
  · exact ⟨hb, by rw [Run.IsLast] at hlast; dsimp only; omega, hn, Nat.zero_lt_of_lt hk⟩

/-- An engine left to itself takes the stage steps its run has left, and is idle after just these. -/
theorem run_engine {m : Nat} (hl : s.cfg.legal = true) (hr : s.engine q = .run r) (hw : r.Within s.cfg)
    (hm : m ≤ r.stagesLeft s.cfg.nband) (hs : s.sched = List.replicate m (.engine q)) :
    ∃ t, Host.Core.run Sys2Proof.core m s = .next t ∧ (t.engine q = .idle ↔ m = r.stagesLeft s.cfg.nband) := by
  induction m generalizing s r with
  | zero =>
    have hpos := Run.stagesLeft_pos hw.frame hw.band
    exact ⟨s, rfl, iff_of_false (by simp [hr]) hpos.ne⟩
  | succ m ih =>
    have hstep := step_engine hl hs hr hw.ok
    have hafter := (s.engine_stageStep_eq q r q).trans (if_pos rfl)
    by_cases h : r.IsLast s.cfg.nband
    · rw [Run.stagesLeft_of_last hw.frame hw.band h] at hm ⊢
      obtain rfl : m = 0 := by omega
      refine ⟨_, run_succ_of_step hstep, iff_of_true ?_ rfl⟩
      exact hafter.trans (if_pos h)
    · rw [← State.stagesLeft_runAfter hw.frame hw.band] at hm ⊢
      have hcfg := s.cfg_stageStep q r
      obtain ⟨t, ht, hidle⟩ := ih (s := { s.stageStep q r with sched := List.replicate m (.engine q) })
        (r := s.runAfter r) (by simpa [hcfg] using hl) (hafter.trans (if_neg h)) (by simpa [hcfg] using hw.runAfter h)
        (by simpa [hcfg] using hm) rfl
      refine ⟨t, (run_succ_of_step hstep).trans ht, ?_⟩
      simpa [hcfg] using hidle

/-! ### Two engines on different channels (R205, R209) -/

/-- Runs of different channels name different samples (R29). -/
theorem sampleIndex_ne (hc : r.c ≠ r'.c) : 2 * r.i + r.c.val ≠ 2 * r'.i + r'.c.val := by
  have hval : r.c.val ≠ r'.c.val := Fin.val_ne_of_ne hc
  have hlt := r.c.isLt
  have hlt' := r'.c.isLt
  omega

/-- No stage step touches what a stage of the other channel reads. -/
theorem stageNow_stageStep (s : State) (q : CorePort) (hc : r.c ≠ r'.c) :
    stageNow (s.stageStep q r) r' = stageNow s r' := by
  have hdelay : (s.stageStep q r).delayAt r'.c r'.k = s.delayAt r'.c r'.k := by
    rw [State.delayAt_stageStep, if_neg fun h => hc h.1.symm]
  have hsmp : (s.stageStep q r).smpAt r'.b (2 * r'.i + r'.c.val) = s.smpAt r'.b (2 * r'.i + r'.c.val) := by
    rw [State.smpAt_stageStep, if_neg fun h => sampleIndex_ne hc h.2.2.symm]
  simp only [stageNow, stageIn, s.cfg_stageStep, s.coefsAt_stageStep, hdelay, hsmp]

theorem engineAfter_stageStep (s : State) (q : CorePort) (hc : r.c ≠ r'.c) :
    (s.stageStep q r).engineAfter r' = s.engineAfter r' := by
  simp only [State.engineAfter, State.runAfter, State.satAfter, stageNow_stageStep s q hc, s.cfg_stageStep]

theorem satAfter_stageStep (s : State) (q : CorePort) (hc : r.c ≠ r'.c) :
    (s.stageStep q r).satAfter r' = s.satAfter r' := by
  simp only [State.satAfter, stageNow_stageStep s q hc]

theorem Part.kept_symm {x : Part} (h : x.kept s t) : x.kept t s := by
  cases x <;> (simp only [Part.kept]; intros; exact (h ..).symm)

/-- States that keep all of `s` but the pieces listed, and agree on these, agree on every piece. -/
theorem SharedKept.agree {l : List Part} (h : SharedKept l s t) (h' : SharedKept l s u)
    (hl : ∀ x ∈ l, x.kept t u) : SharedKept [] t u := by
  refine ⟨fun x _ => ?_, h'.2.trans h.2.symm⟩
  by_cases hx : x ∈ l
  · exact hl x hx
  · have hback : SharedKept l t s := ⟨fun y hy => Part.kept_symm (h.1 y hy), h.2.symm⟩
    exact (hback.trans h').1 x hx

/-- A stage step of one engine, then one of the other. -/
theorem run_two_engines (hl : s.cfg.legal = true) (hq : q' ≠ q) (hr : s.engine q = .run r)
    (hr' : s.engine q' = .run r') (hok : runOk s r) (hok' : runOk s r') :
    Host.Core.run Sys2Proof.core 2 { s with sched := [.engine q, .engine q'] } =
      .next { (s.stageStep q r).stageStep q' r' with sched := [] } := by
  have hcfg := s.cfg_stageStep q r
  have hengine : (s.stageStep q r).engine q' = .run r' := (s.engine_stageStep_of_ne r hq).trans hr'
  have hfirst := step_engine_withSched hl hr hok [.engine q']
  have hsecond := step_engine_withSched (hcfg ▸ hl) hengine (by simpa only [runOk, hcfg] using hok') []
  exact (run_succ_of_step hfirst).trans (run_succ_of_step hsecond)

/-- Stage steps of the two engines on different channels commute. -/
theorem stageStep_comm (s : State) (hq : q ≠ q') (hc : r.c ≠ r'.c) :
    SharedKept [] ((s.stageStep q r).stageStep q' r') ((s.stageStep q' r').stageStep q r) ∧
      ∀ p, ((s.stageStep q' r').stageStep q r).port p = ((s.stageStep q r).stageStep q' r').port p := by
  have hnow := stageNow_stageStep s q hc
  have hnow' := stageNow_stageStep s q' hc.symm
  refine ⟨((SharedKept.stageStep s q r).trans (.stageStep _ q' r')).agree
    ((SharedKept.stageStep s q' r').trans (.stageStep _ q r)) ?_, fun p => ?_⟩
  · simp only [List.forall_mem_cons, Part.kept]
    refine ⟨fun b i => ?_, fun c k j => ?_, ?_, ?_, fun c => ?_, fun _ => ?_, by simp⟩
    · simp only [State.smpAt_stageStep, s.cfg_stageStep, hnow, hnow']
      exact ite_ite_comm _ _ _ _ fun h h' => sampleIndex_ne hc (h.2.2.symm.trans h'.2.2)
    · simp only [State.stAt, State.delayAt_stageStep, hnow, hnow']
      exact congrArg (fun d : Delay => d.word j) (ite_ite_comm _ _ _ _ fun h h' => hc (h.1.symm.trans h'.1))
    · simp only [State.satcnt_stageStep, hnow, hnow']
      split <;> split <;> rfl
    · simp only [State.esr_stageStep, hnow, hnow', Bool.or_right_comm]
    · simp only [State.lockOf_stageStep, s.cfg_stageStep]
      exact ite_ite_comm _ _ _ _ fun h h' => hc (h.2.symm.trans h'.2)
    · simp only [State.engine_stageStep_eq, engineAfter_stageStep s q hc, engineAfter_stageStep s q' hc.symm]
      exact ite_ite_comm _ _ _ _ fun h h' => hq (h.symm.trans h')
  · simp only [State.port_stageStep, s.cfg_stageStep, satAfter_stageStep s q hc,
      satAfter_stageStep s q' hc.symm, CorePort.port_inj, hq, hq.symm, and_false, if_false]
    exact ite_ite_comm _ _ _ _ fun h h' => hq (CorePort.port_inj.mp (h.2.symm.trans h'.2))

end Sys2Proof.Machine

namespace Sys2Proof.Proofs

open Sys2Proof Sys2Proof.Machine Sys2Proof.Claims

/-- Settles O10: at its start a run has `n * NBAND` stage steps left. -/
theorem runTakesExactlyItsStageSteps : Obligations.RunTakesExactlyItsStageSteps := by
  unfold Obligations.RunTakesExactlyItsStageSteps
  intro s q r m hl hr hi hk hn hb hcap hm hs
  have hleft : r.stagesLeft s.cfg.nband = r.n * s.cfg.nband := by simp [Run.stagesLeft, hi, hk]
  have hband : 0 < s.cfg.nband := by
    simp only [Params.legal, decide_eq_true_eq] at hl
    omega
  rw [← hleft] at hm ⊢
  exact run_engine hl hr ⟨hb, by omega, hcap, by omega⟩ hm hs

/-- Settles O58: each order is two stage steps, the second engine's run untouched by the first step, and stage steps
on different channels commute. -/
theorem stageStepsOfTheTwoEnginesCommute : Obligations.StageStepsOfTheTwoEnginesCommute := by
  unfold Obligations.StageStepsOfTheTwoEnginesCommute
  intro s ra rb hl hra hrb hc hoka hokb
  obtain ⟨hshared, hports⟩ := stageStep_comm s (q := .a) (q' := .b) (by decide) hc
  exact ⟨_, _, run_two_engines hl (by decide) hra hrb hoka hokb, run_two_engines hl (by decide) hrb hra hokb hoka,
    hshared.withScheds [] [], hports⟩

end Sys2Proof.Proofs
end

section
/-! PROOFS. The commands of the biquad core (R197 to R204, R211): the effects of each once its checks pass, and the
coefficient word a read finds (R73). -/

namespace Sys2Proof.Machine

open Sys2Proof Sys2Proof.Claims

variable {s : State} {q : CorePort} {k j : Nat}

/-! ### The youngest entry of a coefficient cell -/

/-- The word an entry has for a coefficient cell, if it is for that cell. -/
def Posted.coefFor (k j : Nat) : Posted → Option Word
  | .coef k' j' v => if k' = k ∧ j' = j then some v else none
  | .smp _ _ _ => none

theorem Posted.coefFor_eq_some_iff {e : Posted} {v : Word} : e.coefFor k j = some v ↔ e = .coef k j v := by
  cases e with
  | smp b i v' => simp [Posted.coefFor]
  | coef k' j' v' => simp [Posted.coefFor, and_assoc]

theorem Posted.coefFor_eq_none_iff {e : Posted} : e.coefFor k j = none ↔ ∀ v, e ≠ .coef k j v := by
  simp only [Option.eq_none_iff_forall_ne_some, ne_eq, Posted.coefFor_eq_some_iff]

/-- The youngest word for a cell is the first, from the youngest entry on. -/
theorem youngestCoef_eq_findSome? (k j : Nat) (l : List Posted) :
    youngestCoef k j l = l.reverse.findSome? (Posted.coefFor k j) := by
  induction l with
  | nil => rfl
  | cons e l ih =>
    rw [List.reverse_cons, List.findSome?_append, ← ih]
    cases hl : youngestCoef k j l with
    | some v => simp [youngestCoef, hl]
    | none => cases e <;> simp [youngestCoef, hl, Posted.coefFor]

theorem youngestCoef_eq_none_iff {l : List Posted} : youngestCoef k j l = none ↔ ∀ v, .coef k j v ∉ l := by
  rw [youngestCoef_eq_findSome?, List.findSome?_eq_none_iff]
  simp only [List.mem_reverse, Posted.coefFor_eq_none_iff]
  exact ⟨fun h v hv => h _ hv v rfl, fun h e he v hv => h v (hv ▸ he)⟩

theorem youngestCoef_eq_some_iff {l : List Posted} {v : Word} : youngestCoef k j l = some v ↔
    ∃ older younger, l = older ++ [Posted.coef k j v] ++ younger ∧ ∀ v', Posted.coef k j v' ∉ younger := by
  rw [youngestCoef_eq_findSome?, List.findSome?_eq_some_iff]
  simp only [Posted.coefFor_eq_some_iff, Posted.coefFor_eq_none_iff, List.reverse_eq_iff]
  constructor
  · rintro ⟨younger, e, older, rfl, rfl, hy⟩
    exact ⟨older.reverse, younger.reverse, by simp, fun v' hv' => hy _ (List.mem_reverse.mp hv') v' rfl⟩
  · rintro ⟨older, younger, rfl, hy⟩
    exact ⟨younger.reverse, _, older.reverse, by simp, rfl,
      fun e he v' hv' => hy v' (hv' ▸ List.mem_reverse.mp he)⟩

/-- The one word a port sees in a coefficient cell is the one its read returns (R73). -/
theorem seesCoef_iff {p : Port} {v : Word} : SeesCoef s p k j v ↔ v = s.readCoef p k j := by
  rw [SeesCoef, ← youngestCoef_eq_some_iff, ← youngestCoef_eq_none_iff, State.readCoef, State.ownPosted_eq_posted]
  cases youngestCoef k j (posted s p) <;> simp [eq_comm]

/-! ### What the effects leave -/

theorem SharedKept.withCoefDirty (s : State) (x : Bool) :
    SharedKept [.coefDirty] s { s with coefDirty := x } := by
  refine ⟨fun y hy => ?_, rfl⟩
  cases y with
  | coefDirty => exact absurd (List.mem_singleton.mpr rfl) hy
  | _ => simp only [Part.kept] <;> intros <;> rfl

theorem SharedKept.withEqEn (s : State) (x : Bool) : SharedKept [.eqEn] s { s with eqEn := x } := by
  refine ⟨fun y hy => ?_, rfl⟩
  cases y with
  | eqEn => exact absurd (List.mem_singleton.mpr rfl) hy
  | _ => simp only [Part.kept] <;> intros <;> rfl

theorem SharedKept.zeroFilter (s : State) : SharedKept [.filter] s s.zeroFilter :=
  ⟨fun x hx => by cases x <;> simp_all [Part.kept, State.coefAt], rfl⟩

/-! ### The commands -/

section Commands

variable {rs rd ra : Reg} {c : Fin 2}

theorem coefInRange_iff {p : Params} : Params.coefInRange p k j = true ↔ k < p.nband ∧ j < 5 := decide_eq_true_iff

theorem State.core_issuer (hq : s.issuer = q.port) : s.issuer.core.isSome = true := by simp [hq]

/-- COEFWR that need not wait sets `coef_dirty` and performs its write (R197). -/
theorem exec_coefwr (hq : s.issuer = q.port) (hr : k < s.cfg.nband ∧ j < 5) (hh : s.postHold q 1 = false) :
    exec (.coefwr rs k j) s =
      .next ((({ s with coefDirty := true } : State).post q [.coef k j (s.reg s.issuer rs)]).okay 0) := by
  rw [← State.portPostHold_port, ← hq] at hh
  rw [← State.portPost_port, ← hq]
  exact State.evaluate_effects (by simp [State.core_issuer hq, coefInRange_iff.mpr hr]) hh

theorem exec_coefrd (hp : s.issuer ≠ .c) (hr : k < s.cfg.nband ∧ j < 5) :
    exec (.coefrd rd k j) s = .next (s.answer rd (s.readCoef s.issuer k j)) := by
  have hcore : s.issuer.core.isSome = true := by
    cases h : s.issuer with
    | c => exact absurd h hp
    | a | b => rfl
  exact State.evaluate_effects (by simp [hcore, coefInRange_iff.mpr hr]) rfl

theorem channel_val (c : Fin 2) : channel c.val = c := by
  fin_cases c <;> rfl

theorem exec_strd (hr : k < s.cfg.nband ∧ j < 4) :
    exec (.strd rd c.val k j) s = .next (s.answer rd (s.stAt c k j)) := by
  have hrange : Params.stInRange s.cfg c.val k j = true := decide_eq_true ⟨c.isLt, hr⟩
  have hexec : exec (.strd rd c.val k j) s = .next (s.answer rd (s.stAt (channel c.val) k j)) :=
    State.evaluate_effects (by simp [hrange]) rfl
  rwa [channel_val] at hexec

theorem exec_commit (hq : s.issuer = q.port) (hw : s.wb q = []) :
    exec .commit s = .next (({ s.zeroFilter with coefDirty := false } : State).okay 0) := by
  have hfence : s.fenced s.issuer = true := hq ▸ State.fenced_of_empty hw
  exact State.evaluate_effects (by simp [State.core_issuer hq]) (by simp [hfence])

theorem exec_eqen (hq : s.issuer = q.port) (e : Bool) :
    exec (.eqen e) s = .next (({ s.zeroFilter with eqEn := e } : State).okay 0) :=
  State.evaluate_effects (by simp [State.core_issuer hq]) rfl

/-- A valid BQRUN that need not wait completes in bypass or on an empty block, and else starts its engine (R203). -/
theorem exec_bqrun (hq : s.issuer = q.port) (hv : valid s (.bqrun ra c)) (hw : s.wb q = [])
    (hd : s.coefDirty = false) (hl : s.lockOf c = none) :
    exec (.bqrun ra c) s = .next (if s.eqEn = false ∨ s.cntOf (idx s ra) = 0 then s.okay 0
      else s.startRun q.port (idx s ra) c) := by
  obtain ⟨-, hrange, howner, -⟩ := hv
  have hr : idx s ra < s.cfg.nbuf := hrange
  have ho := (s.mayWrite_iff _ _).mpr howner
  have hfence : s.fenced s.issuer = true := hq ▸ State.fenced_of_empty hw
  rw [← hq]
  exact State.evaluate_effects (by simp [State.core_issuer hq, State.idx_eq_idx, hr, ho])
    (by simp [hfence, hd, hl])

theorem State.startRun_port (s : State) (q : CorePort) (b : Nat) (c : Fin 2) :
    s.startRun q.port b c = (s.setLock c (some q)).setEngine q
      (.run { b := b, c := c, n := s.cntOf b, i := 0, k := 0, v := 0, sat := false }) := by
  simp [State.startRun]

end Commands

end Sys2Proof.Machine

namespace Sys2Proof.Proofs

open Sys2Proof Sys2Proof.Machine Sys2Proof.Claims

/-- Settles O35: with room the word is posted; where the buffer could never hold it and is empty, the word is written
at once. -/
theorem coefwrMarksAndWrites : Obligations.CoefwrMarksAndWrites := by
  unfold Obligations.CoefwrMarksAndWrites
  intro s q rs k j hq hk hj
  let u : State := { s with coefDirty := true }
  refine ⟨fun hroom => ?_, fun hd hw => ?_⟩
  · obtain ⟨hhold, hpostable⟩ := State.post_of_room hroom
    have hexec := exec_coefwr (rs := rs) hq ⟨hk, hj⟩ hhold
    have hpost : u.post q [.coef k j (s.reg s.issuer rs)] = u.setWb q (u.wb q ++ [.coef k j (s.reg s.issuer rs)]) :=
      if_pos hpostable
    rw [hpost] at hexec
    refine ⟨_, completesWith_okay hexec .of_fields ?_, rfl, ?_, fun q' hq' => ?_⟩
    · exact ((SharedKept.withCoefDirty s true).append (.setWb u q _)).mono (by simp)
    · exact (u.wb_setWb q _ q).trans (if_pos rfl)
    · exact (u.wb_setWb q _ q').trans (if_neg hq')
  · obtain ⟨hhold, hpostable⟩ := State.post_of_empty hd Nat.one_pos hw
    have hexec := exec_coefwr (rs := rs) hq ⟨hk, hj⟩ hhold
    have hpost : u.post q [.coef k j (s.reg s.issuer rs)] = u.setCoef k j (s.reg s.issuer rs) :=
      if_neg (by simp [u, hpostable])
    rw [hpost] at hexec
    refine ⟨_, completesWith_okay hexec .of_fields ?_, rfl, ?_, fun k' j' hkj => ?_⟩
    · exact ((SharedKept.withCoefDirty s true).append (.setCoef u k j _)).mono (by simp)
    · exact (u.coefAt_setCoef k j _ k j hj).trans (if_pos ⟨rfl, rfl⟩)
    · exact (u.coefAt_setCoef k j _ k' j' hj).trans (if_neg fun h => hkj (Prod.ext h.1 h.2))

/-- Settles O36: the word seen is the word read, and a read answers what it finds. -/
theorem coefficientAndStateReads : Obligations.CoefficientAndStateReads := by
  unfold Obligations.CoefficientAndStateReads
  refine ⟨fun s p k j => ⟨_, seesCoef_iff.mpr rfl, fun _ => seesCoef_iff.mp⟩, fun s rd k j hp hk hj => ?_,
    fun s rd c k j hk hj => ?_⟩
  · exact ⟨_, _, seesCoef_iff.mpr rfl, answersWith_answer (exec_coefrd hp ⟨hk, hj⟩) (.refl s) (.refl s)⟩
  · exact ⟨_, answersWith_answer (exec_strd ⟨hk, hj⟩) (.refl s) (.refl s)⟩

/-- Settles O37: each command's effects are the zeroed filter and its own flag. -/
theorem commitAndEqenZeroTheFilter : Obligations.CommitAndEqenZeroTheFilter := by
  unfold Obligations.CommitAndEqenZeroTheFilter
  intro s q hq
  refine ⟨fun hw => ⟨_, completesWith_okay (exec_commit hq hw) .of_fields ?_, rfl, s.stAt_zeroFilter⟩,
    fun e => ⟨_, completesWith_okay (exec_eqen hq e) .of_fields ?_, rfl, s.stAt_zeroFilter⟩⟩
  · exact (SharedKept.zeroFilter s).append (.withCoefDirty _ false)
  · exact (SharedKept.zeroFilter s).append (.withEqEn _ e)

/-- Settles O38: the run starts, and the effects are the lock's and the engine's. -/
theorem bqrunStartsTheEngine : Obligations.BqrunStartsTheEngine := by
  unfold Obligations.BqrunStartsTheEngine
  intro s q ra c hq hv hw hd hl he hn
  have hexec := exec_bqrun hq hv hw hd hl
  rw [if_neg (by simp [he, hn]), State.startRun_port] at hexec
  refine ⟨_, hexec, ?_, fun q' hq' => ?_, ?_, fun c' hc' => ?_, fun _ => rfl, ?_, fun _ _ => rfl, rfl, rfl, rfl⟩
  · simp
  · simp [hq']
  · simp
  · simp [hc']
  · exact ((SharedKept.setLock s c _).append (.setEngine _ q _)).mono (by simp)

/-- Settles O39: the run does not start, and the completion is the one effect. -/
theorem bqrunBypassTouchesNothing : Obligations.BqrunBypassTouchesNothing := by
  unfold Obligations.BqrunBypassTouchesNothing
  intro s q ra c hq hv hw hd hl hbypass
  have hexec := exec_bqrun hq hv hw hd hl
  rw [if_pos hbypass] at hexec
  exact ⟨_, completesWith_okay hexec (.refl s) (.refl s)⟩

end Sys2Proof.Proofs
end

section
/-! PROOFS. The dispatcher and its barrier (R220 to R225): the effects of each command once its checks pass, what those
effects leave as it was, and which command makes which move. -/

namespace Sys2Proof.Machine

open Sys2Proof Sys2Proof.Claims

variable {s u : State}

/-! ### The fence -/

/-- A port with nothing posted is past the fence; port C, which has no buffer, always is (R72, R225). -/
theorem State.fenced_of_posted_nil {p : Port} (hw : posted s p = []) : s.fenced p = true := by
  cases p with
  | a => exact State.fenced_of_empty (q := .a) hw
  | b => exact State.fenced_of_empty (q := .b) hw
  | c => rfl

/-! ### What the effects leave -/

theorem SharedKept.withBar (s : State) (x : BarState) : SharedKept [.bar] s { s with bar := x } := by
  refine ⟨fun y hy => ?_, rfl⟩
  cases y with
  | bar => exact absurd (List.mem_singleton.mpr rfl) hy
  | _ => simp only [Part.kept] <;> intros <;> rfl

theorem SharedKept.withJobBuf (s : State) (b : BitVec 8) : SharedKept [.jobBuf] s { s with jobBuf := b } := by
  refine ⟨fun y hy => ?_, rfl⟩
  cases y with
  | jobBuf => exact absurd (List.mem_singleton.mpr rfl) hy
  | _ => simp only [Part.kept] <;> intros <;> rfl

/-- The interrupt is high only while the go token is pending (R38). -/
theorem State.irqB_of_ne_goPending (hbar : s.bar ≠ .goPending) : s.irqB = false := by
  simp [State.irqB, hbar]

/-- While the go token is pending the interrupt is its enable (R38). -/
theorem State.irqB_of_goPending (hbar : s.bar = .goPending) : s.irqB = s.goIe := by
  simp [State.irqB, hbar]

/-- Where the parameters are legal, a buffer number fits the eight bits of `job_buf` (R8, R37). -/
theorem toNat_jobBuf_of_legal (hl : s.cfg.legal = true) {b : Nat} (hb : b < s.cfg.nbuf) :
    (BitVec.ofNat 8 b).toNat = b := by
  simp only [Params.legal, decide_eq_true_eq] at hl
  simp only [BitVec.toNat_ofNat]
  omega

/-! ### The commands -/

section Commands

variable {rd ra : Reg}

theorem exec_fork (hp : s.issuer = .a) (hb : idx s ra < s.cfg.nbuf) (ho : s.ownOf (idx s ra) = .prod)
    (hbar : s.bar = .idle) (hw : s.wb .a = []) :
    exec (.fork ra) s = .next ((({ s with jobBuf := BitVec.ofNat 8 (idx s ra), bar := .goPending } : State).setOwn
      (idx s ra) .split).okay 0) := by
  have hfence : s.fenced s.issuer = true := hp ▸ State.fenced_of_empty hw
  exact State.evaluate_effects (by simp [hp, State.idx_eq_idx, hb, ho, hbar]) (by simp [hfence])

theorem exec_accept (hp : s.issuer = .b) (hbar : s.bar = .goPending) :
    exec (.accept rd) s = .next (({ s with bar := .bActive } : State).answer rd (s.jobBuf.setWidth 32)) :=
  State.evaluate_effects (by simp [hp, hbar]) (by simp [hbar])

theorem exec_done (hp : s.issuer = .b) (hbar : s.bar = .bActive) (hw : s.wb .b = []) :
    exec .done s = .next (({ s with bar := .donePending } : State).okay 0) := by
  have hfence : s.fenced s.issuer = true := hp ▸ State.fenced_of_empty hw
  exact State.evaluate_effects (by simp [hp, hbar]) (by simp [hfence])

theorem exec_join (hp : s.issuer = .a) (hbar : s.bar = .donePending) :
    exec .join s = .next ((({ s with bar := .idle } : State).setOwn s.jobBuf.toNat .prod).okay 0) :=
  State.evaluate_effects (by simp [hp, hbar]) (by simp [hbar])

theorem exec_fence (hw : posted s s.issuer = []) : exec .fence s = .next (s.okay 0) :=
  State.evaluate_effects (checks := []) rfl (by simp [State.fenced_of_posted_nil hw])

end Commands

/-! ### Barrier moves -/

/-- A move that changes the barrier changes it as R220 says of the move's command. -/
theorem PoolMove.barMove {i : Instr} (h : PoolMove s i u) (hb : u.bar ≠ s.bar) : barMove i s.bar u.bar := by
  cases h with
  | fork _ _ hbar | accept hbar | done hbar | join hbar => exact ⟨hbar, rfl⟩
  | flush => rfl
  | take | takeb | give | ctake | cgive => exact absurd rfl hb

end Sys2Proof.Machine

namespace Sys2Proof.Proofs

open Sys2Proof Sys2Proof.Machine Sys2Proof.Claims

/-- Settles O40: the effects are the buffer's and the barrier's, and `job_buf` is wide enough for the handle. -/
theorem forkPublishesTheBlock : Obligations.ForkPublishesTheBlock := by
  unfold Obligations.ForkPublishesTheBlock
  intro s ra hl hp hb ho hbar hw
  let v : State := { s with jobBuf := BitVec.ofNat 8 (idx s ra) }
  let u : State := { v with bar := .goPending }
  have hjob : SharedKept [.jobBuf, .bar] s u := (SharedKept.withJobBuf s _).append (.withBar v .goPending)
  have hkept := (hjob.append (.setOwn u (idx s ra) .split)).mono (l' := [.own, .bar, .jobBuf]) (by simp)
  obtain ⟨hown, hother⟩ := u.ownOf_setOwn_only (idx s ra) .split
  exact ⟨_, completesWith_okay (exec_fork hp hb ho hbar hw) .of_fields hkept, toNat_jobBuf_of_legal hl hb, hown,
    hother, rfl, State.irqB_of_goPending rfl⟩

/-- Settles O41: the one effect besides the answer is the barrier's, which lets `irq_b` fall. -/
theorem acceptTakesTheToken : Obligations.AcceptTakesTheToken := by
  unfold Obligations.AcceptTakesTheToken
  intro s rd hp hbar
  exact ⟨_, _, answersWith_answer (exec_accept hp hbar) .of_fields (.withBar s .bActive),
    BitVec.toNat_setWidth_of_le (by decide), rfl, State.irqB_of_ne_goPending nofun⟩

/-- Settles O42: the check and the fence pass, and the one effect is the barrier's. -/
theorem donePostsTheCompletion : Obligations.DonePostsTheCompletion := by
  unfold Obligations.DonePostsTheCompletion
  intro s hp hbar hw
  exact ⟨_, completesWith_okay (exec_done hp hbar hw) .of_fields (.withBar s .donePending), rfl⟩

/-- Settles O43: the effects are the barrier's and the buffer's. -/
theorem joinTakesTheBufferBack : Obligations.JoinTakesTheBufferBack := by
  unfold Obligations.JoinTakesTheBufferBack
  intro s hp hbar
  have hkept := (SharedKept.withBar s .idle).append (.setOwn _ s.jobBuf.toNat .prod)
  exact ⟨_, completesWith_okay (exec_join hp hbar) .of_fields hkept, rfl,
    State.ownOf_setOwn_only { s with bar := .idle } s.jobBuf.toNat .prod⟩

/-- Settles O44: FENCE has no effect besides its completion. -/
theorem fenceOnlyWaits : Obligations.FenceOnlyWaits := by
  unfold Obligations.FenceOnlyWaits
  exact fun s hw => ⟨_, completesWith_okay (exec_fence hw) (.refl s) (.refl s)⟩

/-- Settles O54: of the changes a step can make, only the move of a command changes the barrier, and from the value its
check or its hold lets through. -/
theorem theBarrierMovesOnlyByItsCommands : Obligations.TheBarrierMovesOnlyByItsCommands := by
  unfold Obligations.TheBarrierMovesOnlyByItsCommands
  intro s t h hb
  rcases step_change h with hq | ⟨p, i, u, -, hruns, hsu, -, -, hc⟩
  · exact absurd hq.pool.bar hb
  · rw [← hsu.pool.bar] at hb ⊢
    cases hc with
    | quiet q => exact absurd q.pool.bar hb
    | pool m q =>
      rw [q.pool.bar] at hb ⊢
      exact ⟨p, i, hruns, m.barMove hb⟩
    | csr _ q => exact absurd ((SamePool.csrWrite _ _ _ _).trans q.pool).bar hb

end Sys2Proof.Proofs
end

section
/-! PROOFS. The order of validation (R246, R12, R13): what evaluating a command comes to, said once for every command
against the tables of rights, checks and holds. -/

namespace Sys2Proof.Machine

open Sys2Proof Sys2Proof.Claims

variable {s t u : State} {i : Instr}

/-! ### Responses -/

/-- A port has one latest response, so one status and one `rdata`. -/
theorem Responded.unique {s' : State} {p : Port} {c c' : Cond} {v v' : Word} (h : Responded p c v s t)
    (h' : Responded p c' v' s' t) : c = c' ∧ v = v' := by
  obtain ⟨-, hresp, -⟩ := h
  obtain ⟨-, hresp', -⟩ := h'
  simpa using hresp.symm.trans hresp'

/-- A port that is left as it was has not been answered: its `cp` has not advanced. -/
theorem not_responded_of_port {p : Port} {c : Cond} {v : Word} (hp : t.port p = s.port p) :
    ¬ Responded p c v s t := by
  rintro ⟨-, -, hcp, -⟩
  rw [hp] at hcp
  omega

theorem responded_okay (hp : PortsKept s u) (v : Word) : Responded s.issuer .ok v s (u.okay v) := by
  obtain ⟨hport, hi, -⟩ := hp
  simp [Responded, State.okay, State.port_respond, hi, hport]

theorem responded_answer (hp : PortsKept s u) (rd : Reg) (v : Word) : Responded s.issuer .ok v s (u.answer rd v) := by
  obtain ⟨hport, hi, -⟩ := hp
  simp [Responded, State.answer, State.okay, State.port_respond, State.port_setReg, hi, hport]

theorem responded_reject (s : State) (c : SubCause) : Responded s.issuer (.invalidParameter c) 0 s (s.reject c) := by
  rw [Responded, State.port_reject, if_pos rfl]
  exact ⟨rfl, rfl, rfl, rfl⟩

/-- Everything ResourceExhausted does to the ports (R242). -/
theorem State.port_exhaust (u : State) (rd : Reg) (p : Port) :
    (u.exhaust rd).port p =
      if p = u.issuer then
        { u.port u.issuer with
          x := (u.port u.issuer).x.set rd.val 0xFFFFFFFF#32
          cp := (u.port u.issuer).cp + 1
          outstanding := none
          status := { (u.port u.issuer).status with cond := .resourceExhausted }
          resp := some { cond := .resourceExhausted, rdata := 0xFFFFFFFF#32 } }
      else u.port p := by
  by_cases hp : p = u.issuer <;>
    simp [State.exhaust, State.port_respond, State.port_setReg, State.port_withEsr, hp]

theorem responded_exhaust (hp : PortsKept s u) (rd : Reg) :
    Responded s.issuer .resourceExhausted 0xFFFFFFFF#32 s (u.exhaust rd) := by
  obtain ⟨hport, hi, -⟩ := hp
  rw [Responded, State.port_exhaust, hi, if_pos rfl, hport]
  exact ⟨rfl, rfl, rfl, rfl⟩

/-! ### The two counters of empty queues -/

theorem SharedKept.withOverrun (s : State) (n : Word) : SharedKept [.overrun] s { s with overrun := n } := by
  refine ⟨fun x hx => ?_, rfl⟩
  cases x with
  | overrun => exact absurd (List.mem_singleton.mpr rfl) hx
  | _ => simp only [Part.kept] <;> intros <;> rfl

theorem SharedKept.withUnderrun (s : State) (n : Word) : SharedKept [.underrun] s { s with underrun := n } := by
  refine ⟨fun x hx => ?_, rfl⟩
  cases x with
  | underrun => exact absurd (List.mem_singleton.mpr rfl) hx
  | _ => simp only [Part.kept] <;> intros <;> rfl

/-- What ResourceExhausted leaves besides its response, over effects that keep the ports (R242). -/
theorem State.exhaust_keeps (hp : PortsKept s u) {l : List Part} (hk : SharedKept l s u) (rd : Reg) :
    (u.exhaust rd).reg s.issuer rd = 0xFFFFFFFF#32 ∧ RegsKeptBut s.issuer rd s (u.exhaust rd) ∧
      QfKept s.issuer s (u.exhaust rd) ∧ Kept s.issuer (l ++ [.esr]) s (u.exhaust rd) := by
  obtain ⟨hport, hi, hs⟩ := hp
  have hshared : SharedKept (l ++ [.esr]) s (u.exhaust rd) :=
    hk.append ((SharedKept.withEsr u _).trans
      (((SharedKept.setPort _ _).trans (SharedKept.setPort _ _)).mono (by simp)))
  have hown : (u.exhaust rd).port s.issuer = _ := (u.port_exhaust rd s.issuer).trans (if_pos hi.symm)
  refine ⟨?_, fun r hr => ?_, ?_, hshared, fun p hne => ?_, ?_, hi, hs⟩
  · simp [State.exhaust, hi]
  · have hx : (u.exhaust rd).reg u.issuer r = u.reg u.issuer r :=
      (State.reg_respond _ _ _ _ _ _).trans ((State.reg_setReg _ _ _ _ _ _).trans (if_neg fun h => hr h.2))
    rwa [hi, State.reg, State.reg, hport] at hx
  · rw [QfKept, hown, hi, hport]
  · rw [State.port_exhaust, if_neg (hi ▸ hne), hport]
  · rw [hown, hi, hport]

/-! ### Posted writes leave the ports -/

theorem PortsKept.trans (h : PortsKept s u) (h' : PortsKept u t) : PortsKept s t := by
  obtain ⟨hport, hi, hs⟩ := h
  obtain ⟨hport', hi', hs'⟩ := h'
  exact ⟨fun p => (hport' p).trans (hport p), hi'.trans hi, hs'.trans hs⟩

theorem PortsKept.commitAll (s : State) (es : List Posted) : PortsKept s (es.foldl State.commitPosted s) := by
  induction es generalizing s with
  | nil => exact .refl s
  | cons e es ih =>
    have hone : PortsKept s (s.commitPosted e) := by cases e <;> exact .of_fields
    exact hone.trans (ih _)

theorem PortsKept.portPost (s : State) (p : Port) (es : List Posted) : PortsKept s (s.portPost p es) := by
  unfold State.portPost
  split
  · exact .refl s
  · next q _ =>
    rcases s.post_cases q es with ⟨-, he⟩ | ⟨-, he⟩ <;> rw [he]
    · exact .of_fields
    · exact .commitAll s es

/-! ### What a command can do once nothing holds it -/

/-- The two commands that can find a queue empty, each on the port it is allowed on (R242). -/
def Exhausts (s : State) (i : Instr) : Prop :=
  (∃ rd, i = .take rd ∧ s.issuer = .a ∧ s.freeq = []) ∨ (∃ rd, i = .ctake rd ∧ s.issuer = .c ∧ s.outq = [])

/-- A command that takes effect completes with OK or OverflowSaturated; finds its queue empty; or starts an engine,
and then leaves its port as it was (R203, R240). -/
inductive TakesEffect (i : Instr) (s t : State) : Prop
  | completes {c : Cond} {v : Word} (hc : c = .ok ∨ c = .overflowSaturated) (h : Responded s.issuer c v s t)
  | exhausted (hq : Exhausts s i) (h : Responded s.issuer .resourceExhausted 0xFFFFFFFF#32 s t)
  | starts (hport : t.port s.issuer = s.port s.issuer) (hne : t ≠ s)

theorem TakesEffect.okay (hp : PortsKept s u) {v : Word} : TakesEffect i s (u.okay v) :=
  .completes (.inl rfl) (responded_okay hp v)

theorem TakesEffect.answer (hp : PortsKept s u) {rd : Reg} {v : Word} : TakesEffect i s (u.answer rd v) :=
  .completes (.inl rfl) (responded_answer hp rd v)

theorem TakesEffect.answerClamped {rd : Reg} {r : Int × Bool} : TakesEffect i s (s.answerClamped rd r) :=
  .completes (by cases r.2 <;> simp) (responded_answerClamped s rd r)

theorem TakesEffect.ne (h : TakesEffect i s t) : t ≠ s := by
  cases h with
  | completes _ h | exhausted _ h =>
    rintro rfl
    exact not_responded_of_port rfl h
  | starts _ hne => exact hne

/-- A command that takes effect is not rejected (R241). -/
theorem TakesEffect.not_rejected (h : TakesEffect i s t) (c : SubCause) (v : Word) :
    ¬ Responded s.issuer (.invalidParameter c) v s t := by
  intro hr
  cases h with
  | completes hc h =>
    obtain ⟨rfl, -⟩ := h.unique hr
    simp at hc
  | exhausted _ h => cases (h.unique hr).1
  | starts hport _ => exact not_responded_of_port hport hr

theorem TakesEffect.exhausts (h : TakesEffect i s t) {v : Word}
    (hr : Responded s.issuer .resourceExhausted v s t) : Exhausts s i ∧ v = 0xFFFFFFFF#32 := by
  cases h with
  | completes hc h =>
    obtain ⟨rfl, -⟩ := h.unique hr
    simp at hc
  | exhausted hq h => exact ⟨hq, (hr.unique h).2⟩
  | starts hport _ => exact absurd hr (not_responded_of_port hport)

/-! ### The order of the checks -/

open Classical in
/-- The sub-cause of the first of a command's checks that fails, in the order of R246, if one fails. -/
noncomputable def firstFailing (i : Instr) (s : State) : Option SubCause :=
  if allowed i s.issuer = false then some .port
  else if ¬ rangeOk s i then some (rangeCause i)
  else if ¬ ownerOk s i then some .owner
  else if ¬ protocolOk s i then some .protocol
  else none

theorem firstFailing_port (hp : allowed i s.issuer = false) : firstFailing i s = some .port := by
  simp [firstFailing, hp]

theorem firstFailing_range (hp : allowed i s.issuer = true) (hr : ¬ rangeOk s i) :
    firstFailing i s = some (rangeCause i) := by
  simp [firstFailing, hp, hr]

theorem firstFailing_owner (hp : allowed i s.issuer = true) (hr : rangeOk s i) (ho : ¬ ownerOk s i) :
    firstFailing i s = some .owner := by
  simp [firstFailing, hp, hr, ho]

theorem firstFailing_protocol (hp : allowed i s.issuer = true) (hr : rangeOk s i) (ho : ownerOk s i)
    (hpr : ¬ protocolOk s i) : firstFailing i s = some .protocol := by
  simp [firstFailing, hp, hr, ho, hpr]

/-- A command is valid exactly when none of its checks fails. -/
theorem firstFailing_eq_none_iff : firstFailing i s = none ↔ valid s i := by
  unfold firstFailing valid
  split_ifs <;> simp_all

/-- PORT reports a port without the right, and no other check that fails (R252). -/
theorem allowed_of_firstFailing (h : firstFailing i s = some .port) : allowed i s.issuer = false := by
  by_contra hp
  simp only [firstFailing, if_neg hp] at h
  split at h
  · cases i <;> cases h
  · split_ifs at h <;> cases h

section Order

variable {b r o pr : Bool} {l : List (SubCause × Bool)}

/-! A list of checks is read from its head: each check fails the command, or hands on to those after it. -/

theorem firstFailed_port (hb : b = true ↔ allowed i s.issuer = true)
    (rest : allowed i s.issuer = true → firstFailed l = firstFailing i s) :
    firstFailed ((.port, b) :: l) = firstFailing i s := by
  cases b
  · exact (firstFailing_port (by simpa using hb)).symm
  · exact rest (hb.mp rfl)

theorem firstFailed_range (hp : allowed i s.issuer = true) (hb : b = true ↔ rangeOk s i)
    (rest : rangeOk s i → firstFailed l = firstFailing i s) (hc : rangeCause i = .range := by rfl) :
    firstFailed ((.range, b) :: l) = firstFailing i s := by
  cases b
  · exact hc ▸ (firstFailing_range hp fun h => Bool.false_ne_true (hb.mpr h)).symm
  · exact rest (hb.mp rfl)

theorem firstFailed_owner (hp : allowed i s.issuer = true) (hr : rangeOk s i) (hb : b = true ↔ ownerOk s i)
    (rest : ownerOk s i → firstFailed l = firstFailing i s) :
    firstFailed ((.owner, b) :: l) = firstFailing i s := by
  cases b
  · exact (firstFailing_owner hp hr fun h => Bool.false_ne_true (hb.mpr h)).symm
  · exact rest (hb.mp rfl)

theorem firstFailed_protocol (hp : allowed i s.issuer = true) (hr : rangeOk s i) (ho : ownerOk s i)
    (hb : b = true ↔ protocolOk s i) (rest : protocolOk s i → firstFailed l = firstFailing i s) :
    firstFailed ((.protocol, b) :: l) = firstFailing i s := by
  cases b
  · exact (firstFailing_protocol hp hr ho fun h => Bool.false_ne_true (hb.mpr h)).symm
  · exact rest (hb.mp rfl)

/-- Past its last check a command is valid. -/
theorem firstFailed_passed (hv : valid s i) : firstFailed [] = firstFailing i s :=
  (firstFailing_eq_none_iff.mpr hv).symm

/-! The lists that several commands share; the checks a command does not have cannot fail. -/

theorem firstFailed_port_only (hb : b = true ↔ allowed i s.issuer = true) (hr : rangeOk s i) (ho : ownerOk s i)
    (hpr : protocolOk s i) : firstFailed [(.port, b)] = firstFailing i s :=
  firstFailed_port hb fun hp => firstFailed_passed ⟨hp, hr, ho, hpr⟩

theorem firstFailed_port_range (hb : b = true ↔ allowed i s.issuer = true) (hr : r = true ↔ rangeOk s i)
    (ho : ownerOk s i) (hpr : protocolOk s i) (hc : rangeCause i = .range := by rfl) :
    firstFailed [(.port, b), (.range, r)] = firstFailing i s :=
  firstFailed_port hb fun hp => firstFailed_range hp hr (fun hr => firstFailed_passed ⟨hp, hr, ho, hpr⟩) hc

theorem firstFailed_port_range_owner (hb : b = true ↔ allowed i s.issuer = true) (hr : r = true ↔ rangeOk s i)
    (ho : o = true ↔ ownerOk s i) (hpr : protocolOk s i) (hc : rangeCause i = .range := by rfl) :
    firstFailed [(.port, b), (.range, r), (.owner, o)] = firstFailing i s :=
  firstFailed_port hb fun hp => firstFailed_range hp hr (fun hr =>
    firstFailed_owner hp hr ho fun ho => firstFailed_passed ⟨hp, hr, ho, hpr⟩) hc

theorem firstFailed_port_protocol (hb : b = true ↔ allowed i s.issuer = true) (hr : rangeOk s i) (ho : ownerOk s i)
    (hpr : pr = true ↔ protocolOk s i) : firstFailed [(.port, b), (.protocol, pr)] = firstFailing i s :=
  firstFailed_port hb fun hp => firstFailed_protocol hp hr ho hpr fun hpr => firstFailed_passed ⟨hp, hr, ho, hpr⟩

end Order

/-! ### What an evaluation comes to -/

/-- What the evaluation of a command answers: the rejection by the first check that fails, nothing while it must
wait, or its effects (R246, R12, R13). -/
inductive Evaluated (i : Instr) (s : State) : Result → Prop
  | rejected {c : SubCause} (h : firstFailing i s = some c) : Evaluated i s (.next (s.reject c))
  | held (hv : valid s i) (hw : waits s i) : Evaluated i s (.next s)
  | effects {u : State} (hv : valid s i) (hw : ¬ waits s i) (hu : TakesEffect i s u) : Evaluated i s (.next u)

/-- The evaluation of checks and of a hold that say what the tables say. -/
theorem Evaluated.of_evaluate {l : List (SubCause × Bool)} {hold : Bool} (he : exec i s = s.evaluate l hold u)
    (hl : firstFailed l = firstFailing i s) (hh : hold = true ↔ waits s i)
    (hu : valid s i → ¬ waits s i → TakesEffect i s u) : Evaluated i s (exec i s) := by
  obtain ⟨t, ht⟩ := s.evaluate_next l hold u
  rw [he, ht]
  rcases s.evaluate_cases ht with ⟨c, hc, rfl⟩ | ⟨hc, hhold, rfl⟩ | ⟨hc, hhold, rfl⟩ <;> rw [hc] at hl
  · exact .rejected hl.symm
  · exact .held (firstFailing_eq_none_iff.mp hl.symm) (hh.mp hhold)
  · have hv : valid s i := firstFailing_eq_none_iff.mp hl.symm
    have hw : ¬ waits s i := fun h => by simp [hh.mpr h] at hhold
    exact .effects hv hw (hu hv hw)

/-- A command that can neither be rejected nor held. -/
theorem Evaluated.of_next (he : exec i s = .next u) (hu : TakesEffect i s u) (hv : valid s i)
    (hw : ¬ waits s i) : Evaluated i s (exec i s) :=
  he ▸ .effects hv hw hu

/-! ### The tables, check by check and hold by hold -/

theorem Port.core_isSome_iff {p : Port} : p.core.isSome = true ↔ decide (p ≠ .c) = true := by
  cases p <;> decide

/-- A command without a hold never waits. -/
theorem never_waits (h : ¬ waits s i) : false = true ↔ waits s i := iff_of_false Bool.false_ne_true h

/-- The fence condition of a port (R74). -/
theorem State.not_fenced_iff (s : State) (p : Port) : (!s.fenced p) = true ↔ posted s p ≠ [] := by
  cases p <;> simp [State.fenced, posted, Port.core]

/-- FLUSH waits for the posted writes of both ports (R179). -/
theorem State.flush_hold_iff (s : State) :
    (!(s.fenced .a && s.fenced .b)) = true ↔ s.wb .a ≠ [] ∨ s.wb .b ≠ [] := by
  rw [Bool.not_and, Bool.or_eq_true, State.not_fenced_iff, State.not_fenced_iff]
  rfl

/-- BQRUN waits for its posted writes, for COMMIT and for its channel (R203). -/
theorem State.bqrun_hold_iff (s : State) (c : Fin 2) :
    (!s.fenced s.issuer || s.coefDirty || (s.lockOf c).isSome) = true ↔
      posted s s.issuer ≠ [] ∨ s.coefDirty = true ∨ s.lockOf c ≠ none := by
  rw [Bool.or_eq_true, Bool.or_eq_true, State.not_fenced_iff, or_assoc, Option.isSome_iff_ne_none]

/-- A posted command waits for room, or, if it could never be posted, for its buffer to be empty (R70). -/
theorem State.post_hold_iff (s : State) (m : Nat) : s.portPostHold s.issuer m = true ↔ postWaits s m := by
  have core (q : CorePort) : s.postHold q m = true ↔ ∃ d, s.cfg.wbDepth = some d ∧
      ((m ≤ d ∧ d < (s.wb q).length + m) ∨ (d < m ∧ s.wb q ≠ [])) := by
    unfold State.postHold
    cases s.cfg.wbDepth with
    | none => simp
    | some d => by_cases hm : m ≤ d <;> simp [hm, Nat.not_lt.mpr, Nat.lt_of_not_le]
  rw [postWaits]
  cases s.issuer with
  | a => exact core .a
  | b => exact core .b
  | c =>
    refine iff_of_false Bool.false_ne_true ?_
    rintro ⟨d, -, ⟨hm, hd⟩ | ⟨-, hne⟩⟩
    · simp only [posted, List.length_nil] at hd
      omega
    · exact hne rfl

/-! ### Every command -/

/-- CSRRD checks that its number has a register (R116). -/
theorem evaluated_csrrd (rd : Reg) (n : Half) (s : State) :
    Evaluated (.csrrd rd n) s (exec (.csrrd rd n) s) := by
  cases hx : csrAt s.cfg n.toNat with
  | none => exact exec_csrrd_none hx ▸ .rejected (firstFailing_range rfl (csrAt_eq_none.mp hx))
  | some x =>
    have himp : csrImplemented s.cfg n.toNat := by
      by_contra hnot
      simp [csrAt_eq_none.mpr hnot] at hx
    exact .of_next (exec_csrrd_some hx) (.answer (.refl s)) ⟨rfl, himp, trivial, trivial⟩ id

/-- CSRWR checks that its number has a register it may write (R117). -/
theorem evaluated_csrwr (rs : Reg) (n : Half) (s : State) :
    Evaluated (.csrwr rs n) s (exec (.csrwr rs n) s) := by
  cases hx : csrAt s.cfg n.toNat with
  | none =>
    exact exec_csrwr_none hx ▸ .rejected (firstFailing_range rfl fun hw =>
      csrAt_eq_none.mp hx (csrImplemented_of_csrWritable hw))
  | some x =>
    have hiff : x.writable = true ↔ csrWritable n.toNat := csrAt_number hx ▸ x.writable_iff
    cases hw : x.writable with
    | false => exact exec_csrwr_readOnly hx hw ▸ .rejected (firstFailing_range rfl fun h => by simp [hiff.mpr h] at hw)
    | true =>
      exact .of_next (exec_csrwr_writable hx hw) (.completes (.inl rfl) (s.okay_csrWrite _ x).1)
        ⟨rfl, hiff.mp hw, trivial, trivial⟩ id

/-- TAKE takes the head of the free list, or finds it empty (R161, R242). -/
theorem evaluated_take (rd : Reg) (s : State) : Evaluated (.take rd) s (exec (.take rd) s) := by
  refine .of_evaluate rfl (firstFailed_port_only .rfl trivial trivial trivial) (never_waits id)
    fun ⟨hp, _⟩ _ => ?_
  split
  · next hq => exact .exhausted (.inl ⟨rd, rfl, of_decide_eq_true hp, hq⟩) (responded_exhaust .of_fields rd)
  · exact .answer .of_fields

/-- CTAKE takes the head of the output queue, or finds it empty (R165, R242). -/
theorem evaluated_ctake (rd : Reg) (s : State) : Evaluated (.ctake rd) s (exec (.ctake rd) s) := by
  refine .of_evaluate rfl (firstFailed_port_only .rfl trivial trivial trivial) (never_waits id)
    fun ⟨hp, _⟩ _ => ?_
  split
  · next hq => exact .exhausted (.inr ⟨rd, rfl, of_decide_eq_true hp, hq⟩) (responded_exhaust .of_fields rd)
  · exact .answer .of_fields

/-- TAKEB waits for a buffer and takes the head of the free list (R162). -/
theorem evaluated_takeb (rd : Reg) (s : State) : Evaluated (.takeb rd) s (exec (.takeb rd) s) := by
  refine .of_evaluate rfl (firstFailed_port_only .rfl trivial trivial trivial) decide_eq_true_iff
    fun _ hw => ?_
  split
  · next hq => exact absurd hq hw
  · exact .answer .of_fields

/-- BQRUN that need not wait completes at once, or locks its free channel and starts its engine (R203). -/
theorem takesEffect_bqrun {ra : Reg} {c : Fin 2} {b : Nat} (hp : s.issuer.core.isSome = true)
    (hl : s.lockOf c = none) : TakesEffect (.bqrun ra c) s
    (if s.eqEn = false ∨ s.cntOf b = 0 then s.okay 0 else s.startRun s.issuer b c) := by
  split
  · exact .okay (.refl s)
  · obtain ⟨q, hq⟩ := Port.eq_port_of_core hp
    rw [hq, State.startRun_port]
    refine .starts rfl fun heq => ?_
    simpa [hl] using congrArg (fun x : State => x.lockOf c) heq

/-- Every command is evaluated as the tables of its rights, checks and holds say (R246, R252). -/
theorem exec_evaluated (i : Instr) (s : State) : Evaluated i s (exec i s) := by
  cases i with
  | nop | get => exact .of_next rfl (.okay (.refl s)) ⟨rfl, trivial, trivial, trivial⟩ id
  | ldi | ldih | mov | q15to31 | q31to15 | mulh | asr32 =>
    exact .of_next rfl (.answer (.refl s)) ⟨rfl, trivial, trivial, trivial⟩ id
  | sadd32 | ssub32 | sadd16 | ssub16 | sneg32 | sneg16 | smul31 | smul15 | mulhs | sshl32 | sat16 =>
    exact .of_next rfl .answerClamped ⟨rfl, trivial, trivial, trivial⟩ id
  | csrrd rd n => exact evaluated_csrrd rd n s
  | csrwr rs n => exact evaluated_csrwr rs n s
  | take rd => exact evaluated_take rd s
  | takeb rd => exact evaluated_takeb rd s
  | ctake rd => exact evaluated_ctake rd s
  | give =>
    exact .of_evaluate rfl (firstFailed_port_range_owner .rfl decide_eq_true_iff decide_eq_true_iff trivial)
      (s.not_fenced_iff _) fun _ _ => .okay .of_fields
  | cgive | setcnt =>
    exact .of_evaluate rfl (firstFailed_port_range_owner .rfl decide_eq_true_iff decide_eq_true_iff trivial)
      (never_waits id) fun _ _ => .okay .of_fields
  | getcnt | strd =>
    refine .of_evaluate rfl ?_ (never_waits id) fun _ _ => .answer (.refl s)
    exact firstFailed_range rfl decide_eq_true_iff fun hr => firstFailed_passed ⟨rfl, hr, trivial, trivial⟩
  | sts | stf =>
    exact .of_evaluate rfl
      (firstFailed_port_range_owner Port.core_isSome_iff decide_eq_true_iff (s.mayWrite_iff _ _) trivial)
      (s.post_hold_iff _) fun _ _ => .okay (.portPost s _ _)
  | lds | ldf =>
    refine .of_evaluate rfl ?_ (never_waits id) fun _ _ => .answer (.refl s)
    exact firstFailed_range rfl decide_eq_true_iff fun hr => firstFailed_owner rfl hr (s.mayRead_iff _ _) fun ho =>
      firstFailed_passed ⟨rfl, hr, ho, trivial⟩
  | flush =>
    exact .of_evaluate rfl (firstFailed_port_protocol .rfl trivial trivial decide_eq_true_iff)
      s.flush_hold_iff fun _ _ => .okay .of_fields
  | coefwr =>
    exact .of_evaluate rfl (firstFailed_port_range Port.core_isSome_iff coefInRange_iff trivial trivial)
      (s.post_hold_iff _) fun _ _ => .okay (PortsKept.trans .of_fields (.portPost _ _ _))
  | coefrd =>
    exact .of_evaluate rfl (firstFailed_port_range Port.core_isSome_iff coefInRange_iff trivial trivial)
      (never_waits id) fun _ _ => .answer (.refl s)
  | commit =>
    exact .of_evaluate rfl (firstFailed_port_only Port.core_isSome_iff trivial trivial trivial)
      (s.not_fenced_iff _) fun _ _ => .okay .of_fields
  | eqen =>
    exact .of_evaluate rfl (firstFailed_port_only Port.core_isSome_iff trivial trivial trivial)
      (never_waits id) fun _ _ => .okay .of_fields
  | bqrun ra c =>
    exact .of_evaluate rfl
      (firstFailed_port_range_owner Port.core_isSome_iff decide_eq_true_iff (s.mayWrite_iff _ _) trivial)
      (s.bqrun_hold_iff c) fun ⟨hp, _⟩ hw =>
        takesEffect_bqrun (Port.core_isSome_iff.mpr hp) (not_not.mp fun hl => hw (.inr (.inr hl)))
  | fork =>
    refine .of_evaluate rfl ?_ (s.not_fenced_iff _) fun _ _ => .okay .of_fields
    exact firstFailed_port .rfl fun hp => firstFailed_range hp decide_eq_true_iff fun hr =>
      firstFailed_owner hp hr decide_eq_true_iff fun ho =>
        firstFailed_protocol hp hr ho decide_eq_true_iff fun hpr => firstFailed_passed ⟨hp, hr, ho, hpr⟩
  | accept =>
    exact .of_evaluate rfl (firstFailed_port_protocol .rfl trivial trivial decide_eq_true_iff)
      decide_eq_true_iff fun _ _ => .answer .of_fields
  | done =>
    exact .of_evaluate rfl (firstFailed_port_protocol .rfl trivial trivial decide_eq_true_iff)
      (s.not_fenced_iff _) fun _ _ => .okay .of_fields
  | join =>
    exact .of_evaluate rfl (firstFailed_port_protocol .rfl trivial trivial decide_eq_true_iff)
      decide_eq_true_iff fun _ _ => .okay .of_fields
  | fence =>
    exact .of_evaluate (l := []) rfl (firstFailed_passed ⟨rfl, trivial, trivial, trivial⟩) (s.not_fenced_iff _)
      fun _ _ => .okay (.refl s)

/-- Every command answers a next state (R250). -/
theorem exec_next (i : Instr) (s : State) : ∃ t, exec i s = .next t := by
  have hev := exec_evaluated i s
  generalize exec i s = answer at hev ⊢
  cases hev <;> exact ⟨_, rfl⟩

/-- The first check that fails is the rejection. -/
theorem exec_of_failed {c : SubCause} (h : firstFailing i s = some c) : exec i s = .next (s.reject c) := by
  have hev := exec_evaluated i s
  generalize exec i s = answer at hev ⊢
  cases hev with
  | rejected h' => rw [Option.some.inj (h.symm.trans h')]
  | held hv | effects hv => simp [firstFailing_eq_none_iff.mpr hv] at h

theorem exec_of_waits (hv : valid s i) (hw : waits s i) : exec i s = .next s := by
  have hev := exec_evaluated i s
  generalize exec i s = answer at hev ⊢
  cases hev with
  | rejected h => simp [firstFailing_eq_none_iff.mpr hv] at h
  | held => rfl
  | effects _ hnot => exact absurd hw hnot

theorem exec_of_valid (hv : valid s i) (hw : ¬ waits s i) : ∃ t, exec i s = .next t ∧ TakesEffect i s t := by
  have hev := exec_evaluated i s
  generalize exec i s = answer at hev ⊢
  cases hev with
  | rejected h => simp [firstFailing_eq_none_iff.mpr hv] at h
  | held _ hwait => exact absurd hwait hw
  | effects _ _ hu => exact ⟨_, rfl, hu⟩

theorem evaluated_of_exec (h : exec i s = .next t) : Evaluated i s (.next t) := h ▸ exec_evaluated i s

/-- A rejection names the first check that fails. -/
theorem firstFailing_of_rejected (h : exec i s = .next t) {c : SubCause} {v : Word}
    (hr : Responded s.issuer (.invalidParameter c) v s t) : firstFailing i s = some c := by
  cases evaluated_of_exec h with
  | rejected hc =>
    obtain ⟨hcond, -⟩ := (responded_reject s _).unique hr
    cases hcond
    exact hc
  | held => exact absurd hr (not_responded_of_port rfl)
  | effects _ _ hu => exact absurd hr (hu.not_rejected c v)

/-- ResourceExhausted is the answer of an empty queue alone, with the invalid handle (R242). -/
theorem exhausts_of_responded (h : exec i s = .next t) {v : Word}
    (hr : Responded s.issuer .resourceExhausted v s t) : Exhausts s i ∧ v = 0xFFFFFFFF#32 := by
  cases evaluated_of_exec h with
  | rejected => cases ((responded_reject s _).unique hr).1
  | held => exact absurd hr (not_responded_of_port rfl)
  | effects _ _ hu => exact hu.exhausts hr

theorem exec_take_empty {rd : Reg} (hp : s.issuer = .a) (hq : s.freeq = []) :
    exec (.take rd) s = .next (({ s with overrun := countEvent s.overrun } : State).exhaust rd) := by
  simp [exec, execTake, hq, hp, State.evaluate_effects]

theorem exec_ctake_empty {rd : Reg} (hp : s.issuer = .c) (hq : s.outq = []) :
    exec (.ctake rd) s = .next (({ s with underrun := countEvent s.underrun } : State).exhaust rd) := by
  simp [exec, execCtake, hq, hp, State.evaluate_effects]

end Sys2Proof.Machine

namespace Sys2Proof.Proofs

open Sys2Proof Sys2Proof.Machine Sys2Proof.Claims

/-- Settles O26: only an empty queue is answered so, and the completion over the counted event keeps the rest. -/
theorem onlyTakeAndCtakeAreExhausted : Obligations.OnlyTakeAndCtakeAreExhausted := by
  unfold Obligations.OnlyTakeAndCtakeAreExhausted
  refine ⟨fun i s t h hr => (exhausts_of_responded h hr).1, fun i s t v h hr => (exhausts_of_responded h hr).2,
    fun s rd hp hq => ?_, fun s rd hp hq => ?_⟩ <;> rw [← hp]
  · obtain ⟨hreg, hregs, hqf, hkept⟩ := State.exhaust_keeps .of_fields (.withOverrun s (countEvent s.overrun)) rd
    exact ⟨_, exec_take_empty hp hq, hreg, responded_exhaust .of_fields rd, hregs, hqf, toNat_countEvent _, rfl, rfl,
      rfl, hkept⟩
  · obtain ⟨hreg, hregs, hqf, hkept⟩ := State.exhaust_keeps .of_fields (.withUnderrun s (countEvent s.underrun)) rd
    exact ⟨_, exec_ctake_empty hp hq, hreg, responded_exhaust .of_fields rd, hregs, hqf, toNat_countEvent _, rfl, rfl,
      rfl, hkept⟩

/-- Settles O45: the numbers are those of the definitions; the sub-causes all have code 2. -/
theorem statusNumbers : Obligations.StatusNumbers := by
  unfold Obligations.StatusNumbers
  exact ⟨rfl, rfl, fun _ => rfl, rfl, rfl, rfl, rfl, rfl, rfl, rfl, rfl, rfl, rfl⟩

/-- Settles O46: the port is the first check, and no other check reports PORT. -/
theorem portRightsDecideThePortRejection : Obligations.PortRightsDecideThePortRejection := by
  unfold Obligations.PortRightsDecideThePortRejection
  refine fun i s => ⟨fun hp => rejected_of_reject (exec_of_failed (firstFailing_port hp)), fun hp t v h hr => ?_⟩
  simpa [hp] using allowed_of_firstFailing (firstFailing_of_rejected h hr)

/-- Settles O47: the first check that fails is the rejection; past the checks a hold changes nothing, and without one
the command takes effect. -/
theorem checksComeInTheFixedOrder : Obligations.ChecksComeInTheFixedOrder := by
  unfold Obligations.ChecksComeInTheFixedOrder
  intro i s hp
  refine ⟨fun hr => ?_, fun hr ho => ?_, fun hr ho hpr => ?_, exec_of_waits, fun hv hw => ?_⟩
  · exact rejected_of_reject (exec_of_failed (firstFailing_range hp hr))
  · exact rejected_of_reject (exec_of_failed (firstFailing_owner hp hr ho))
  · exact rejected_of_reject (exec_of_failed (firstFailing_protocol hp hr ho hpr))
  · obtain ⟨t, he, ht⟩ := exec_of_valid hv hw
    exact ⟨t, he, ht.ne, ht.not_rejected⟩

end Sys2Proof.Proofs
end

section
/-! PROOFS. No step stops (R250): under the engine invariant every agent's step has a next state. -/

namespace Sys2Proof.Machine

open Sys2Proof

variable {s : State}

theorem runWord_next (w : Word) (s : State) : ∃ t, runWord w s = .next t := by
  unfold runWord
  split
  · next i _ => exact exec_next i s
  · exact ⟨_, rfl⟩

theorem State.portStep_next_state (s : State) (p : Port) : ∃ t, s.portStep p = .next t := by
  unfold State.portStep
  split
  · exact ⟨s, rfl⟩
  · split
    · exact ⟨s, rfl⟩
    · exact runWord_next _ _

/-- Every posted entry names a cell that exists, and so does every run (R71, R206): no agent faults. -/
theorem RunInv.agentStep_next (hi : RunInv s) (a : Agent) : ∃ t, s.agentStep a = .next t := by
  cases a with
  | port p => exact s.portStep_next_state p
  | drain q =>
    cases hw : s.wb q with
    | nil => exact ⟨s, by simp [State.agentStep, State.drainStep, hw]⟩
    | cons e rest => exact ⟨_, hi.drainStep_cons hw⟩
  | engine q =>
    cases he : s.engine q with
    | idle => exact ⟨s, by simp [State.agentStep, State.engineStep, he]⟩
    | run r => exact ⟨_, hi.engineStep_run he⟩

/-- A step of a legal instance has a next state, of the same parameters. -/
theorem RunInv.step_next (hi : RunInv s) (hl : s.cfg.legal = true) :
    ∃ t, Machine.step s = .next t ∧ t.cfg = s.cfg := by
  cases hs : s.sched with
  | nil => exact ⟨s, by simp [Machine.step, hl, hs], rfl⟩
  | cons g rest =>
    obtain ⟨t, ht⟩ := (hi.of_same (.withSched s rest)).agentStep_next g
    exact ⟨t, (step_cons hl hs).trans ht, State.agentStep_cfg (s := { s with sched := rest }) ht⟩

end Sys2Proof.Machine

namespace Sys2Proof.Proofs

open Sys2Proof Sys2Proof.Machine

/-- Settles O52: by induction on the steps, each of which has a next state that meets the invariant again. -/
theorem theUnitNeverStops : Obligations.TheUnitNeverStops := by
  unfold Obligations.TheUnitNeverStops
  intro n
  induction n with
  | zero => exact fun s _ hi => ⟨s, rfl, hi⟩
  | succ n ih =>
    intro s hl hi
    obtain ⟨u, hu, hcfg⟩ := hi.step_next hl
    rw [run_succ_of_step (M := Sys2Proof.core) hu]
    exact ih u (hcfg ▸ hl) (hi.step hu)

end Sys2Proof.Proofs
end
